-- ==== Sys2Proof/Word.lean ====
section
/-!
DEFINITION. The sizes of the GV6420's data (00_scope.md, "Sizes" and "Names"): words, bytes, and the index types
of agents, lines, sources, classes and pool slots.
-/
namespace Sys2Proof

/-- 8 bits. -/
abbrev Byte := BitVec 8

/-- 16 bits: a word of the register window, and a data word of an event. -/
abbrev Word := BitVec 16

/-- A value of the tick counter TICK (R127). -/
abbrev TickCount := BitVec 32

/-- Agents A0 to A3. -/
abbrev Agent := Fin 4

/-- Field lines L0 to L31; line n is source n. -/
abbrev Line := Fin 32

/-- Sources 0 to 63, by index. -/
abbrev Source := Fin 64

/-- Priority classes 0 to 15; 15 is the highest. -/
abbrev Class := Fin 16

/-- Slots of the Record Pool. -/
abbrev Slot := Fin 128

end Sys2Proof
end

