-- ==== Sys2Proof/Syntax.lean ====
section
/-!
DEFINITION. The commands and events the block takes: one constructor for each row of spec/opcode_table.json. The table
gives no operands; each constructor carries the data its rule gives the event.
-/
namespace Sys2Proof

/-- The data of an arrival and of a record: absent, one word or two words (R1, R3). -/
inductive Payload where
  | absent
  | one (w0 : Word)
  | two (w0 w1 : Word)
  deriving DecidableEq, Repr

/-- What a queue walk does next (R50): it visits its next record, going on through the ends of queues on the way, or
it goes on from the end of its queue to the next queue and visits nothing yet (log 8). -/
inductive WalkMove where
  | record
  | nextQueue
  deriving DecidableEq, Repr

/-- What damages a frame being received (R142, R145): a byte that the frame logic does not accept (unknown kind,
paylen above 2, CRC mismatch, channel above 15), a stop bit sampled low, or a wait of 20 bit periods. -/
inductive Damage where
  | byte (b : Byte)
  | framingError
  | truncation
  deriving DecidableEq, Repr

/-- The commands, one for each row of spec/opcode_table.json. `page` is the agent page a command is written through. -/
inductive Instr where
  | powerOnReset
  | tick
  | pinChange (line : Line) (level : Bool)
  | candidateStable (line : Line)
  | claim (agent : Agent)
  | complete (agent : Agent) (source : Source) (seq : Byte)
  | release (agent : Agent) (source : Source) (seq : Byte)
  | enable (agent : Agent)
  | disable (agent : Agent)
  | sleep (agent : Agent)
  | badRequest (agent : Agent) (code : BitVec 4)
  | thresholdWrite (agent : Agent) (value : Word)
  | viewLevelWrite (agent : Agent) (value : Word)
  | tickLoRead (page : Agent)
  | holdWrite (index : Fin 4) (value : Word)
  | faultWrite (value : Word)
  | prescaleWrite (value : Word)
  | linkReserveWrite (value : Word)
  | linkDivWrite (value : Word)
  | linkTimeoutWrite (value : Word)
  | linkRetriesWrite (value : Word)
  | stagingEntryWrite (index : Fin 4) (value : Word)
  | stagingDeadlineWrite (index : Fin 8) (value : Word)
  | registerWrite (address : Byte) (value : Word)
  | editBegin (page : Agent) (operand : Byte)
  | editAbandon (page : Agent) (operand : Byte)
  | commit (page : Agent) (operand : Byte)
  | regroupVisit (move : WalkMove)
  | regroupEnd
  | freeze (page : Agent) (operand : Byte)
  | post (page : Agent) (operand : Byte)
  | purge (page : Agent) (operand : Byte)
  | purgeVisit (move : WalkMove)
  | purgeEnd
  | agentReset (page : Agent) (operand : Byte)
  | agentResetTake
  | agentResetEnd
  | clear (page : Agent) (operand : Byte)
  | clearVisit (move : WalkMove)
  | clearEnd
  | linkStart (page : Agent) (operand : Byte)
  | linkStop (page : Agent) (operand : Byte)
  | badCommand (page : Agent) (code operand : Byte)
  | deadlineExpiry (agent : Agent)
  | helloIntervalExpiry
  | ackTimerExpiry
  | frameDiscarded (damage : Damage)
  | helloTaken (session grant : Byte)
  | helloAckTaken (session grant : Byte)
  | evtTaken (seq : Byte) (channel : Fin 16) (count : Byte) (payload : Payload)
  | ackTaken (nextExpected grant : Byte)
  | nakTaken (nextExpected grant : Byte)
  | crdTaken (grant : Byte)
  | helloSend
  | helloSendEnd
  | helloAckSend
  | firstSend
  | retransmission
  | evtSendEnd
  | ackSend
  | nakSend
  | crdSend
  | byteReceived (b : Byte)
  | resetRelease
  deriving DecidableEq, Repr

end Sys2Proof
end

