-- ==== Sys2Proof/Decode.lean ====
section
/-!
DEFINITION. The command a word spells by the opcode table's bits. spec/opcode_table.json gives no row any bits (its
"fields" are empty and it has no "fixed"), so no word spells a command.
-/
namespace Sys2Proof

/-- No row of the table gives bits, so no word of any length is a command. -/
def decodeTableWord (_nbits _w : Nat) : Option Instr := none

end Sys2Proof
end

