-- ==== Sys2Proof/Config.lean ====
section
/-!
DEFINITION. What the part fixes (the constants of Chapters 1, 8 and 11) and the one free value of the model.
-/
namespace Sys2Proof

/-- The free value: what the spec leaves open is read from here, at the counter `State.choices`. It has no body, so
no proof can lean on a value of it. Used for the order of arrivals that one event sets off (R94, R115, R166, R167, R176,
R195; log 6), for the order of the events that one tick made due (R21, R125; log 5, 22), and for the CRD beside an ACK
(R172, R175; log 7). -/
opaque Config.freeChoice : Nat → Nat

/-- CLAIM's answer when no record is offered (R62). -/
def Config.claimNone : Word := 0xFFFF

/-- CLAIM's answer while a walk is in flight (R62). -/
def Config.claimDeferred : Word := 0xFFFE

/-- The largest length of the Forward Queue (R158). -/
def Config.forwardLimit : Nat := 16

/-- The largest number of sent and unacknowledged records (R158). -/
def Config.windowLimit : Nat := 4

/-- The depth of a service stack and of a withdrawn list (R65, R71). -/
def Config.stackDepth : Nat := 4

/-- The number of HELLO attempts of one handshake (R151). -/
def Config.helloAttempts : Nat := 8

/-- The sum of the general partition and the link reserve (R9). -/
def Config.sharedSlots : Nat := 124

/-- The largest LINK_RESERVE (R13). -/
def Config.linkReserveLimit : Nat := 16

/-- The byte that opens a frame (R143). -/
def Config.syncByte : Byte := 0xB4

end Sys2Proof
end

