-- ==== Sys2Proof/Machine/State.lean ====
section
/-!
DEFINITION. The state of the GV6420 as plain data, block by block as in the functional block diagram of 00_scope.md,
and its value after power-on reset. Each record is stored once, in the structure that holds it; counts of records, the
deadline timers' RUNNING state and the outputs are computed from it (log 18).
-/
namespace Sys2Proof.Machine

/-! ## Records (Chapter 1) -/

/-- The route of an entry: a set of agents (bit i for agent Ai), or LINK with an outbound channel (R5, R105). -/
inductive Route where
  | agents (set : BitVec 4)
  | link (channel : BitVec 4)
  deriving DecidableEq, Repr

/-- The expiry policies (R93): `handBack` is RETURN, `escalate` ESCALATE, `note` NOTE. -/
inductive Policy where
  | handBack
  | escalate
  | note
  deriving DecidableEq, Repr

/-- The dispatch settings copied from the Source Table (R5). -/
structure Snapshot where
  handle : Word
  targets : Route
  fallback : Option Agent
  deadlineIndex : Fin 8
  policy : Policy
  retryLimit : Fin 8
  deriving DecidableEq, Repr

/-- An event record (R1 to R6). Its place is the structure that holds it (R8). `serial` numbers the allocations, for
"the one allocated most recently" of R34 (log 14). -/
structure EventRecord where
  source : Source
  seq : Byte
  cls : Class
  stamp : TickCount
  count : Byte
  payload : Payload
  returns : Fin 16
  escalated : Bool
  abandoned : Bool
  overdue : Bool
  forwarded : Bool
  snap : Snapshot
  retarget : Option Agent
  declined : BitVec 4
  remaining : Option Word
  slot : Slot
  serial : Nat
  deriving DecidableEq, Repr

/-- A (source, seq) pair, the name of a record (R1). -/
structure Pair where
  source : Source
  seq : Byte
  deriving DecidableEq, Repr

/-! ## Timebase (Chapter 7) -/

/-- The Timebase (R125 to R128). -/
structure Timebase where
  prescale : Word
  divisor : Word
  count : Word
  tick : TickCount
  latch : Word
  deriving DecidableEq, Repr

/-! ## Line Inputs, Post Unit, Internal Sources (Chapter 2) -/

/-- A filter candidate (R21). `due` says that at the last tick its count reached the filter length and the change of
the stable level is still to be taken (log 4). -/
structure Candidate where
  level : Bool
  count : Fin 8
  due : Bool
  deriving DecidableEq, Repr

/-- One field line: the pin, the stable level and the candidate (R20, R21); `true` is high. -/
structure LineInput where
  pin : Bool
  stable : Bool
  candidate : Option Candidate
  deriving DecidableEq, Repr

/-- The POST staging values (R27). -/
structure PostUnit where
  data0 : Word
  data1 : Word
  len : BitVec 2
  deriving DecidableEq, Repr

/-- The raised-again flag and latest cause of one internal source (R29). -/
structure InternalSource where
  raisedAgain : Bool
  latest0 : Word
  latest1 : Word
  deriving DecidableEq, Repr

/-! ## Source Table (Chapter 6) -/

/-- One entry of the Source Table, each field as the code software writes (R105, R106, R198). -/
structure Entry where
  handle : Word
  agentSet : BitVec 4
  link : Bool
  channel : BitVec 4
  fallbackAgent : BitVec 2
  fallbackPresent : Bool
  cls : BitVec 4
  maxOutstanding : BitVec 4
  coalesce : BitVec 2
  deadlineIndex : BitVec 3
  enable : Bool
  policy : BitVec 2
  retryLimit : BitVec 3
  trigger : BitVec 3
  filter : BitVec 3
  capture : Bool
  deriving DecidableEq, Repr

/-- The power-on defaults of source s (R107). -/
def Entry.default (s : Source) : Entry where
  handle := BitVec.ofNat 16 s.val
  agentSet := 0
  link := false
  channel := 0
  fallbackAgent := 0
  fallbackPresent := false
  cls := 0
  maxOutstanding := 1
  coalesce := if 60 ≤ s.val then 1 else 0
  deadlineIndex := 0
  enable := false
  policy := 2
  retryLimit := 0
  trigger := 0
  filter := 0
  capture := false

/-- The edit session (R109 to R120). -/
inductive Session where
  | closed
  | opened
  | committing
  deriving DecidableEq, Repr

/-- The Source Table: both copies of the entries and of the deadline table, the session, the frozen flag, ENTRY_SEL. -/
structure SourceTable where
  active : Vector Entry 64
  staging : Vector Entry 64
  activeDeadlines : Vector Word 8
  stagingDeadlines : Vector Word 8
  session : Session
  frozen : Bool
  entrySel : Source
  deriving DecidableEq, Repr

/-! ## Record Pool and Dispatcher (Chapters 1 and 3) -/

/-- What the Pool holds beside the records: LINK_RESERVE (R13), the sequence and overflow counters (R14, R15), SRC_SEL
(R16), and the number the next allocation takes (log 14). -/
structure Pool where
  linkReserve : Byte
  nextSeq : Vector Byte 64
  overflow : Vector Byte 64
  srcSel : Source
  nextSerial : Nat
  deriving DecidableEq, Repr

/-- The Dispatcher: the class queues from head to tail (R39), the hold words (R45), QSEL (R54). -/
structure Dispatcher where
  queues : Vector (List EventRecord) 16
  hold : Vector Word 4
  qselClass : Class
  qselPosition : Fin 128
  deriving DecidableEq, Repr

/-! ## Agent ports (Chapter 4) -/

inductive AgentState where
  | off
  | active
  | asleep
  | draining
  deriving DecidableEq, Repr

/-- VIEW_LEVEL (R75). -/
inductive ViewLevel where
  | top
  | fixed (level : Fin 4)
  deriving DecidableEq, Repr

/-- The last results (R74). -/
inductive LastResult where
  | idle
  | claimed
  | noRecord
  | deferred
  | done
  | released
  | notTop
  | late
  | unknown
  | draining
  | taken
  | stackBusy
  | sleepRefused
  | badRequest
  deriving DecidableEq, Repr

/-- One agent port (R55). The stack is listed from the top down: the record at index i of n has level n − 1 − i. The
withdrawn list is listed from oldest to newest. `tickDue` says that the last tick found 1 tick remaining and the expiry
is still to be taken (R89; log 4). -/
structure Port where
  state : AgentState
  threshold : Class
  stack : List EventRecord
  tickDue : Bool
  view : ViewLevel
  withdrawn : List Pair
  lastResult : LastResult
  deriving DecidableEq, Repr

/-! ## Fault Unit (Chapter 7) -/

/-- The eleven sticky flags, numbered as in the fault word (R129, R198), and the link counters (R138, R139). -/
structure FaultUnit where
  flags : BitVec 11
  crcErrors : Byte
  linkLost : Byte
  deriving DecidableEq, Repr

/-! ## Event Link (Chapters 8 and 9) -/

inductive LinkState where
  | stopped
  | helloSent
  | up
  | down
  deriving DecidableEq, Repr

/-- The cause of the last entry into DOWN (R148); `never` is NONE. -/
inductive DownCause where
  | never
  | helloTimeout
  | retriesExhausted
  deriving DecidableEq, Repr

/-- The HELLO interval timer and the ACK timer (R148, R161): STOPPED, or RUNNING with the ticks left. `expiring` is
RUNNING when the last tick has come and the expiry is still to be taken (log 4). -/
inductive LinkTimer where
  | stopped
  | running (left : Word)
  | expiring
  deriving DecidableEq, Repr

/-- A frame, by kind and fields (R143). -/
inductive Frame where
  | hello (session grant : Byte)
  | helloAck (session grant : Byte)
  | evt (seq : Byte) (channel : BitVec 4) (count : Byte) (payload : Payload)
  | ack (nextExpected grant : Byte)
  | nak (nextExpected grant : Byte)
  | crd (grant : Byte)
  deriving DecidableEq, Repr

/-- The frame logic of the receiver (R145). `held` is the KIND byte and the body bytes received so far. -/
inductive FrameLogic where
  | hunt
  | kind
  | body (held : List Byte)
  | check (held : List Byte) (crcLow : Option Byte)
  deriving DecidableEq, Repr

/-- The link parameters (R140). -/
structure LinkParams where
  div : Byte
  timeout : Word
  retries : Byte
  deriving DecidableEq, Repr

/-- The Link Session (R148). -/
structure LinkSession where
  state : LinkState
  session : Byte
  attempts : Fin 9
  timer : LinkTimer
  peerGrant : Byte
  downCause : DownCause
  deriving DecidableEq, Repr

/-- A frame begun on the transmit pair (R141). `live` says whether its end still acts on a timer: of a HELLO, that its
handshake is still in progress (R151; log 10); of an EVT, that no NAK or ACK timer expiry has set the resend mark since
its first byte (R165, R168). The ends of the other kinds act on none. -/
structure Sending where
  frame : Frame
  live : Bool
  deriving DecidableEq, Repr

/-- The transmit pair and the requests due to its arbiter (R147). `answerSession` is the session of the most recent
HELLO taken, which a HELLO_ACK carries. -/
structure TransmitPair where
  helloDue : Bool
  helloAckDue : Bool
  nakDue : Bool
  ackDue : Bool
  crdDue : Bool
  answerSession : Byte
  sending : Option Sending
  deriving DecidableEq, Repr

/-- A record of the Forward Queue: queued when `linkSeq` is absent, sent when it is present (R158). -/
structure Forwarded where
  record : EventRecord
  linkSeq : Option Byte
  deriving DecidableEq, Repr

/-- The Event Link Transmitter (R158, R161): the Forward Queue from oldest to newest, and its counters. -/
structure Transmitter where
  queue : List Forwarded
  sendSeq : Byte
  firstSends : Byte
  retry : Fin 9
  timer : LinkTimer
  mark : Option Byte
  deriving DecidableEq, Repr

/-- The Event Link Receiver (R145, R170). -/
structure Receiver where
  logic : FrameLogic
  expected : Byte
  gOut : Byte
  nakFlag : Bool
  carried : Byte
  deriving DecidableEq, Repr

/-! ## Command Unit (Chapter 10) -/

/-- The position of a queue walk (R50): the queue it is in, and how many records of that queue, from its head, lie
before the next record it will visit. It is at the queue's end when no record is left there. -/
structure QueuePos where
  queue : Class
  passed : Nat
  deriving DecidableEq, Repr

/-- The walk in flight (R189). While it is a PURGE of s, s is under PURGE (R51). -/
inductive Walk where
  | regroup (pos : QueuePos)
  | purge (source : Source) (pos : QueuePos)
  | agentReset (agent : Agent)
  | clear (pos : QueuePos)
  deriving DecidableEq, Repr

inductive CommandStatus where
  | idle
  | busy
  | done
  | refused
  deriving DecidableEq, Repr

/-- The reasons of a refused command (R186). -/
inductive Reason where
  | noReason
  | frozen
  | sessionOpen
  | noSession
  | invalid
  | badSource
  | badLength
  | badAgent
  | already
  | badCommand
  deriving DecidableEq, Repr

/-- The Command Unit (R186). It is BUSY exactly while a walk is in flight. -/
structure CommandUnit where
  status : CommandStatus
  code : Byte
  operand : Byte
  issuer : Agent
  reason : Reason
  result : Word
  walk : Option Walk
  deriving DecidableEq, Repr

/-! ## The whole state -/

/-- The state of the part. `pending` is the queue of commands that are waiting; `inReset` says that RESET_N is low
(R184); `dataOut` is the word the last read with a side effect returned (log 12); `choices` counts the free values read
(log 6). -/
structure State where
  pending : List Instr
  inReset : Bool
  dataOut : Word
  timebase : Timebase
  lines : Vector LineInput 32
  post : PostUnit
  internals : Vector InternalSource 4
  table : SourceTable
  pool : Pool
  dispatcher : Dispatcher
  ports : Vector Port 4
  faults : FaultUnit
  params : LinkParams
  link : LinkSession
  pair : TransmitPair
  transmitter : Transmitter
  receiver : Receiver
  command : CommandUnit
  choices : Nat
  deriving DecidableEq, Repr

/-- A step of this block never faults: the spec names no event that stops the part. -/
inductive Fault where
  deriving DecidableEq, Repr

/-- Why a command has no meaning. -/
inductive Refusal where
  /-- Raised by an arm of `exec` whose command has no meaning yet. Safe. No arm raises it. -/
  | notModelled (mnemonic : String)
  deriving DecidableEq, Repr

/-- What a command answers. -/
abbrev Result := Host.Outcome State Fault Refusal

/-- The part after power-on reset, RESET_N high again: R17, R20, R27, R31, R40, R45, R54, R55, R86, R107, R108, R122,
R124, R125, R127, R128, R131, R138 to R140, R145, R148, R158, R161, R170, R184, R186. The spec gives no value for the
pins, for `answerSession`, for the model's own counters and for `dataOut` before a read (log 2, 12, 13, 14). -/
def State.reset : State where
  pending := []
  inReset := false
  dataOut := 0
  timebase := { prescale := 999, divisor := 999, count := 0, tick := 0, latch := 0 }
  lines := Vector.replicate 32 { pin := false, stable := false, candidate := none }
  post := { data0 := 0, data1 := 0, len := 0 }
  internals := Vector.replicate 4 { raisedAgain := false, latest0 := 0, latest1 := 0 }
  table :=
    { active := Vector.ofFn Entry.default, staging := Vector.ofFn Entry.default
      activeDeadlines := Vector.replicate 8 0, stagingDeadlines := Vector.replicate 8 0
      session := .closed, frozen := false, entrySel := 0 }
  pool :=
    { linkReserve := 8, nextSeq := Vector.replicate 64 0, overflow := Vector.replicate 64 0
      srcSel := 0, nextSerial := 0 }
  dispatcher :=
    { queues := Vector.replicate 16 [], hold := Vector.replicate 4 0, qselClass := 0, qselPosition := 0 }
  ports := Vector.replicate 4
    { state := .off, threshold := 0, stack := [], tickDue := false, view := .top, withdrawn := [], lastResult := .idle }
  faults := { flags := 0, crcErrors := 0, linkLost := 0 }
  params := { div := 7, timeout := 200, retries := 3 }
  link :=
    { state := .stopped, session := 0, attempts := 0, timer := .stopped, peerGrant := 0, downCause := .never }
  pair :=
    { helloDue := false, helloAckDue := false, nakDue := false, ackDue := false, crdDue := false
      answerSession := 0, sending := none }
  transmitter := { queue := [], sendSeq := 0, firstSends := 0, retry := 0, timer := .stopped, mark := none }
  receiver := { logic := .hunt, expected := 0, gOut := 0, nakFlag := false, carried := 0 }
  command :=
    { status := .idle, code := 0, operand := 0, issuer := 0, reason := .noReason, result := 0, walk := none }
  choices := 0

end Sys2Proof.Machine
end

