-- ==== Sys2Proof/Machine/Flags.lean ====
section
/-!
DEFINITION. The sticky fault flags and how an event sets and a write clears them (R129 to R131), saturating counts, and
the derived indications: deadline timer RUNNING (R87), link timer RUNNING.
-/
namespace Sys2Proof.Machine

/-- A byte count raised by one, saturating at 255 (R3, R15, R138, R139). -/
def satByte (b : Byte) : Byte := if b = 255 then 255 else b + 1

/-- A bounded number raised by one, saturating at its bound: class at 15 (R2), returns at 15 (R4), retry count at 8
(R168), HELLO attempts at 8 (R148), stability count at 7 (R21). -/
def satFin {n : Nat} (x : Fin (n + 1)) : Fin (n + 1) := ⟨min (x.val + 1) n, by omega⟩

/-- The eleven sticky flags (R129). -/
inductive FaultFlag where
  | overflow
  | retired
  | overdue
  | linkDown
  | creditOverrun
  | crc
  | peerRestart
  | commitInvalid
  | cmdOverrun
  | stageClosed
  | reserveRefused
  deriving DecidableEq, Repr

/-- The position of each flag in the fault word (R198). -/
def FaultFlag.bit : FaultFlag → Nat
  | .overflow => 0
  | .retired => 1
  | .overdue => 2
  | .linkDown => 3
  | .creditOverrun => 4
  | .crc => 5
  | .peerRestart => 6
  | .commitInvalid => 7
  | .cmdOverrun => 8
  | .stageClosed => 9
  | .reserveRefused => 10

/-- Whether a flag is set. -/
def State.faultSet (s : State) (f : FaultFlag) : Bool := s.faults.flags.getLsbD f.bit

/-- An event sets its sticky flag; the other flags stay (R129). -/
def State.setFault (s : State) (f : FaultFlag) : State :=
  { s with faults := { s.faults with flags := s.faults.flags ||| (1 : BitVec 11) <<< f.bit } }

/-- A write of the fault word clears each flag whose position is written with 1 (R130). -/
def State.clearFaults (s : State) (w : Word) : State :=
  { s with faults := { s.faults with flags := s.faults.flags &&& ~~~(w.setWidth 11) } }

/-- A deadline timer is RUNNING while the stack is not empty, the agent is not DRAINING and the top record has a
remaining time (R87). -/
def Port.timerRunning (p : Port) : Bool :=
  match p.stack with
  | [] => false
  | r :: _ => p.state != .draining && r.remaining.isSome

/-- Whether a link timer shows RUNNING. -/
def LinkTimer.isRunning : LinkTimer → Bool
  | .stopped => false
  | .running _ => true
  | .expiring => true

/-- One tick at a link timer (R151, R165): the count falls by one, and at 0 the timer expires. -/
def LinkTimer.ticked : LinkTimer → LinkTimer
  | .stopped => .stopped
  | .running left => if left.toNat ≤ 1 then .expiring else .running (left - 1)
  | .expiring => .expiring

end Sys2Proof.Machine
end

