-- ==== Sys2Proof/Machine/Operands.lean ====
section
/-!
DEFINITION. The layouts of the register window's words (R197 to R200): taking an operand's fields from a written word,
and building a read word from its fields.
-/
namespace Sys2Proof.Machine

/-- Bits `start` to `start + len − 1` of a written word (R200). -/
def field (w : Word) (start len : Nat) : BitVec len := w.extractLsb' start len

/-- One bit of a written word. -/
def flagAt (w : Word) (i : Nat) : Bool := w.getLsbD i

/-- A flag as a word with that bit. -/
def bitAt (b : Bool) (i : Nat) : Word := if b then (1 : Word) <<< i else 0

/-- A number placed at bit `start` of a word. -/
def placed (n start : Nat) : Word := BitVec.ofNat 16 n <<< start

/-- The pair word: bits 5–0 source, bits 15–8 seq (R197). -/
def pairWord (p : Pair) : Word := placed p.source.val 0 ||| placed p.seq.toNat 8

/-- The source field of a COMPLETE word, bits 5–0; also the value ENTRY_SEL and SRC_SEL take (R197, R200). -/
def sourceField (w : Word) : Source := (field w 0 6).toFin

/-- The seq field of a COMPLETE word, bits 15–8. -/
def seqField (w : Word) : Byte := field w 8 8

/-- The operation of a COMPLETE word, bit 7: set for RELEASE. -/
def releaseField (w : Word) : Bool := flagAt w 7

/-- The code of a COMMAND word, bits 15–8. -/
def commandCode (w : Word) : Byte := field w 8 8

/-- The operand of a COMMAND word, bits 7–0; also the value LINK_RESERVE, LINK_DIV and LINK_RETRIES take (R200). -/
def lowByte (w : Word) : Byte := field w 0 8

/-- The class field of THRESHOLD and QSEL, bits 3–0. -/
def classField (w : Word) : Class := (field w 0 4).toFin

/-- The position field of QSEL, bits 14–8. -/
def positionField (w : Word) : Fin 128 := (field w 8 7).toFin

/-- VIEW_LEVEL: bit 2 TOP, else the fixed level of bits 1–0 (R200). -/
def viewField (w : Word) : ViewLevel := if flagAt w 2 then .top else .fixed (field w 0 2).toFin

/-- What VIEW_LEVEL reads. -/
def viewWord : ViewLevel → Word
  | .top => 0x0004
  | .fixed l => placed l.val 0

/-! ## Entry words (R198) -/

/-- E0: the handle. -/
def Entry.word0 (e : Entry) : Word := e.handle

/-- E1: agent set 3–0, LINK 7, outbound channel 11–8, fallback agent 13–12, fallback present 14. -/
def Entry.word1 (e : Entry) : Word :=
  placed e.agentSet.toNat 0 ||| bitAt e.link 7 ||| placed e.channel.toNat 8 ||| placed e.fallbackAgent.toNat 12 |||
    bitAt e.fallbackPresent 14

/-- E2: class 3–0, max outstanding 7–4, coalesce 9–8, deadline index 12–10, enable 15. -/
def Entry.word2 (e : Entry) : Word :=
  placed e.cls.toNat 0 ||| placed e.maxOutstanding.toNat 4 ||| placed e.coalesce.toNat 8 |||
    placed e.deadlineIndex.toNat 10 ||| bitAt e.enable 15

/-- E3: expiry policy 1–0, retry limit 4–2, trigger 10–8, filter 14–12, capture 15. -/
def Entry.word3 (e : Entry) : Word :=
  placed e.policy.toNat 0 ||| placed e.retryLimit.toNat 2 ||| placed e.trigger.toNat 8 ||| placed e.filter.toNat 12 |||
    bitAt e.capture 15

/-- Word k of an entry. -/
def Entry.word (e : Entry) (k : Fin 4) : Word :=
  match k with
  | 0 => e.word0
  | 1 => e.word1
  | 2 => e.word2
  | 3 => e.word3

/-- An entry after a write of word k: every field of that word is replaced by its code as written (R109, R200). -/
def Entry.withWord (e : Entry) (k : Fin 4) (w : Word) : Entry :=
  match k with
  | 0 => { e with handle := w }
  | 1 =>
    { e with
      agentSet := field w 0 4, link := flagAt w 7, channel := field w 8 4, fallbackAgent := field w 12 2
      fallbackPresent := flagAt w 14 }
  | 2 =>
    { e with
      cls := field w 0 4, maxOutstanding := field w 4 4, coalesce := field w 8 2, deadlineIndex := field w 10 3
      enable := flagAt w 15 }
  | 3 =>
    { e with
      policy := field w 0 2, retryLimit := field w 2 3, trigger := field w 8 3, filter := field w 12 3
      capture := flagAt w 15 }

/-! ## The codes' meanings (R105, R106, R198) -/

/-- The fallback of an entry: none, or one agent. -/
def Entry.fallback (e : Entry) : Option Agent := if e.fallbackPresent then some e.fallbackAgent.toFin else none

/-- The route of an entry. A code that names both a non-empty set and LINK names no value (R106) and is read here as
the set; no enabled active entry holds it (R113; log 17). -/
def Entry.route (e : Entry) : Route := if e.link && e.agentSet == 0 then .link e.channel else .agents e.agentSet

/-- The expiry policy of an entry. Code 3 names no value and stands in no enabled active entry (R113; log 17). -/
def Entry.expiryPolicy (e : Entry) : Policy :=
  if e.policy = 0 then .handBack else if e.policy = 1 then .escalate else .note

/-- The coalesce modes: whether an arrival merges, and whether it replaces stamp and payload (R34). -/
inductive Coalesce where
  | never
  | count
  | latest
  deriving DecidableEq, Repr

/-- The coalesce mode of an entry. Code 3 names no value and stands in no enabled active entry (R113; log 17). -/
def Entry.coalesceMode (e : Entry) : Coalesce :=
  if e.coalesce = 1 then .count else if e.coalesce = 2 then .latest else .never

/-- The trigger modes (R22, R23). -/
inductive Trigger where
  | rising
  | falling
  | both
  | high
  | low
  deriving DecidableEq, Repr

/-- The trigger mode of an entry; a code beyond LOW names none (R106). -/
def Entry.triggerMode (e : Entry) : Option Trigger :=
  match e.trigger.toNat with
  | 0 => some .rising
  | 1 => some .falling
  | 2 => some .both
  | 3 => some .high
  | 4 => some .low
  | _ => none

/-- The snapshot a record takes from an entry (R5). -/
def Entry.snapshot (e : Entry) : Snapshot where
  handle := e.handle
  targets := e.route
  fallback := e.fallback
  deadlineIndex := e.deadlineIndex.toFin
  policy := e.expiryPolicy
  retryLimit := e.retryLimit.toFin

/-- Whether an entry of source s passes every check of R113 that an enabled entry must pass. -/
def Entry.legal (e : Entry) (s : Source) : Bool :=
  (e.link != (e.agentSet != 0)) &&
  (e.handle != 0xFFFE && e.handle != 0xFFFF) &&
  (decide (1 ≤ e.maxOutstanding.toNat) && decide (e.maxOutstanding.toNat ≤ 8)) &&
  (e.coalesce != 3 && e.policy != 3) &&
  (decide (32 ≤ s.val) || e.triggerMode.isSome) &&
  (decide (s.val < 44) || !e.link) &&
  (decide (s.val < 60) || (e.maxOutstanding == 1 && e.coalesce == 1))

/-- An entry is invalid when it is enabled and fails a check (R113). -/
def Entry.invalid (e : Entry) (s : Source) : Bool := e.enable && !e.legal s

/-- Whether the regroup walk refreshes the records of a source with this entry (R117): a non-empty agent set, and every
check of R113 passed as if it were enabled. -/
def Entry.refreshes (e : Entry) (s : Source) : Bool := e.legal s && !e.link && e.agentSet != 0

/-! ## Codes shown in words (R197 to R199) -/

def AgentState.code : AgentState → Nat
  | .off => 0
  | .active => 1
  | .asleep => 2
  | .draining => 3

def LastResult.code : LastResult → Nat
  | .idle => 0
  | .claimed => 1
  | .noRecord => 2
  | .deferred => 3
  | .done => 4
  | .released => 5
  | .notTop => 6
  | .late => 7
  | .unknown => 8
  | .draining => 9
  | .taken => 10
  | .stackBusy => 11
  | .sleepRefused => 12
  | .badRequest => 13

def Session.code : Session → Nat
  | .closed => 0
  | .opened => 1
  | .committing => 2

def CommandStatus.code : CommandStatus → Nat
  | .idle => 0
  | .busy => 1
  | .done => 2
  | .refused => 3

def Reason.code : Reason → Nat
  | .noReason => 0
  | .frozen => 1
  | .sessionOpen => 2
  | .noSession => 3
  | .invalid => 4
  | .badSource => 5
  | .badLength => 6
  | .badAgent => 7
  | .already => 8
  | .badCommand => 9

def LinkState.code : LinkState → Nat
  | .stopped => 0
  | .helloSent => 1
  | .up => 2
  | .down => 3

def DownCause.code : DownCause → Nat
  | .never => 0
  | .helloTimeout => 1
  | .retriesExhausted => 2

/-- The ten command codes (R199). -/
inductive CommandName where
  | editBegin
  | editAbandon
  | commit
  | freeze
  | post
  | purge
  | agentReset
  | clear
  | linkStart
  | linkStop
  deriving DecidableEq, Repr

/-- The command a code names, or none (R199). -/
def commandOf (code : Byte) : Option CommandName :=
  match code.toNat with
  | 1 => some .editBegin
  | 2 => some .editAbandon
  | 3 => some .commit
  | 4 => some .freeze
  | 5 => some .post
  | 6 => some .purge
  | 7 => some .agentReset
  | 8 => some .clear
  | 9 => some .linkStart
  | 10 => some .linkStop
  | _ => none

end Sys2Proof.Machine
end

