-- ==== Sys2Proof/Machine/Ops.lean ====
section
/-!
DEFINITION. The named operations over the state's registers and records: access, where records are, counting and
allocating slots, the class queues, eligibility, the service stacks, the receiver's grant, and an order the spec leaves
open.
-/
namespace Sys2Proof.Machine

/-! ## Access -/

def State.port (s : State) (a : Agent) : Port := s.ports[a]

def State.setPort (s : State) (a : Agent) (p : Port) : State := { s with ports := s.ports.set a.val p a.isLt }

def State.line (s : State) (n : Line) : LineInput := s.lines[n]

def State.setLine (s : State) (n : Line) (l : LineInput) : State := { s with lines := s.lines.set n.val l n.isLt }

def State.internal (s : State) (i : Fin 4) : InternalSource := s.internals[i]

def State.setInternal (s : State) (i : Fin 4) (x : InternalSource) : State :=
  { s with internals := s.internals.set i.val x i.isLt }

/-- The active entry of a source (R108). -/
def State.entry (s : State) (src : Source) : Entry := s.table.active[src]

/-- Class queue c, from head to tail (R39). -/
def State.queue (s : State) (c : Class) : List EventRecord := s.dispatcher.queues[c]

def State.setQueues (s : State) (qs : Vector (List EventRecord) 16) : State :=
  { s with dispatcher := { s.dispatcher with queues := qs } }

def State.setTransmitter (s : State) (t : Transmitter) : State := { s with transmitter := t }

/-- The hold flag of a source: bit i of hold word k is source 16k + i (R45). -/
def State.held (s : State) (src : Source) : Bool :=
  (s.dispatcher.hold[src.val / 16]'(by omega)).getLsbD (src.val % 16)

/-! ## Kinds of source (Chapter 2) -/

/-- The line of a line source. -/
def lineOf (src : Source) : Option Line := if h : src.val < 32 then some ⟨src.val, h⟩ else none

/-- The source of a line. -/
def lineSource (n : Line) : Source := ⟨n.val, by omega⟩

/-- Which internal source 60–63 a source is. -/
def internalOf (src : Source) : Option (Fin 4) := if h : 60 ≤ src.val then some ⟨src.val - 60, by omega⟩ else none

/-- Internal source i. -/
def internalSource (i : Fin 4) : Source := ⟨60 + i.val, by omega⟩

/-- Link channel sources are 44–59. -/
def isChannel (src : Source) : Bool := decide (44 ≤ src.val) && decide (src.val < 60)

/-- The source of channel n (R32). -/
def channelSource (n : Fin 16) : Source := ⟨44 + n.val, by omega⟩

/-- The partitions of the Pool (R9). -/
inductive Partition where
  | general
  | linkReserve
  | internal
  deriving DecidableEq, Repr

/-- A record belongs to the partition of its source (R9). -/
def partitionOf (src : Source) : Partition :=
  if src.val < 44 then .general else if src.val < 60 then .linkReserve else .internal

/-! ## Where the records are (R7, R8) -/

/-- The classes from 15 down to 0. -/
def classesDown : List Class := (List.finRange 16).reverse

/-- The pending records, class 15 down to 0, head to tail: the order of a scan (R47). -/
def State.pendingRecords (s : State) : List EventRecord := classesDown.flatMap s.queue

/-- The records in service. -/
def State.stackedRecords (s : State) : List EventRecord := (List.finRange 4).flatMap fun a => (s.port a).stack

/-- The records of the Forward Queue, oldest first. -/
def State.forwardRecords (s : State) : List EventRecord := s.transmitter.queue.map (·.record)

/-- Every allocated record. -/
def State.allocated (s : State) : List EventRecord := s.pendingRecords ++ (s.stackedRecords ++ s.forwardRecords)

/-! ## Counting (R9, R12, R16) -/

/-- The outstanding count of a source (R12). -/
def State.outstanding (s : State) (src : Source) : Nat := s.allocated.countP (·.source == src)

/-- The held count of a partition (R9). -/
def State.heldCount (s : State) (p : Partition) : Nat := s.allocated.countP fun r => partitionOf r.source == p

/-- The size of a partition (R9). -/
def State.partitionSize (s : State) : Partition → Nat
  | .general => Config.sharedSlots - s.pool.linkReserve.toNat
  | .linkReserve => s.pool.linkReserve.toNat
  | .internal => 4

/-- The lowest-numbered FREE slot (R10). -/
def State.freeSlot (s : State) : Option Slot :=
  (List.finRange 128).find? fun k => s.allocated.all fun r => r.slot != k

/-- The fixed max outstanding of an internal source is 1; the entry's value otherwise (R10, R105). -/
def State.maxOutstanding (s : State) (src : Source) : Nat :=
  if 60 ≤ src.val then 1 else (s.entry src).maxOutstanding.toNat

/-- The first sequence number from the counter of a source on that no allocated record of the source carries (R14). -/
def State.freshSeq (s : State) (src : Source) : Byte :=
  let start := s.pool.nextSeq[src]
  let free (k : Nat) : Bool := s.allocated.all fun r => !(r.source == src && r.seq == start + BitVec.ofNat 8 k)
  start + BitVec.ofNat 8 (((List.range 256).find? free).getD 0)

/-! ## Walks (R50) -/

/-- A walk is in flight (R189). -/
def State.walking (s : State) : Bool := s.command.walk.isSome

/-- A source is under PURGE while a PURGE walk of it is in flight (R51). -/
def State.underPurge (s : State) (src : Source) : Bool :=
  match s.command.walk with
  | some (.purge p _) => p == src
  | _ => false

/-- A CLEAR walk is in flight. -/
def State.clearing (s : State) : Bool :=
  match s.command.walk with
  | some (.clear _) => true
  | _ => false

/-- A record placed at the head of the queue being walked has been passed (R50). -/
def QueuePos.headInserted (p : QueuePos) (c : Class) : QueuePos :=
  if p.queue = c then { p with passed := p.passed + 1 } else p

/-- The walk's position after a head insertion into queue c. -/
def Walk.headInserted (w : Walk) (c : Class) : Walk :=
  match w with
  | .regroup p => .regroup (p.headInserted c)
  | .purge src p => .purge src (p.headInserted c)
  | .agentReset a => .agentReset a
  | .clear p => .clear (p.headInserted c)

/-! ## The class queues (R41 to R43) -/

/-- A record placed at the tail of the queue of its class (R41). -/
def State.insertTail (s : State) (r : EventRecord) : State :=
  s.setQueues (s.dispatcher.queues.set r.cls.val (s.queue r.cls ++ [r]) r.cls.isLt)

/-- A record placed at the head of the queue of its class (R42); a queue walk there has passed it (R50). -/
def State.insertHead (s : State) (r : EventRecord) : State :=
  { s.setQueues (s.dispatcher.queues.set r.cls.val (r :: s.queue r.cls) r.cls.isLt) with
    command := { s.command with walk := s.command.walk.map (·.headInserted r.cls) } }

/-- The record in a slot leaves the class queues; those behind it move up (R43). -/
def State.removePending (s : State) (k : Slot) : State :=
  s.setQueues (s.dispatcher.queues.map fun q => q.filter fun r => r.slot != k)

/-- The pending record in a slot changes in place, keeping its position (R43). -/
def State.changePending (s : State) (k : Slot) (f : EventRecord → EventRecord) : State :=
  s.setQueues (s.dispatcher.queues.map fun q => q.map fun r => if r.slot = k then f r else r)

/-! ## Eligibility and selection (R47, R60, R61) -/

/-- The set holding one agent. -/
def agentBit (a : Agent) : BitVec 4 := (1 : BitVec 4) <<< a.val

/-- The agents a record may go to: its retarget alone, else the agents of its snapshot targets (R6, R61). -/
def EventRecord.mayGoTo (r : EventRecord) : BitVec 4 :=
  match r.retarget with
  | some b => agentBit b
  | none =>
    match r.snap.targets with
    | .agents set => set
    | .link _ => 0

/-- A declined set that covers every agent the record may go to is emptied (R61). -/
def EventRecord.testDeclined (r : EventRecord) : EventRecord :=
  if r.declined &&& r.mayGoTo = r.mayGoTo then { r with declined := 0 } else r

/-- The pair that names a record (R1). -/
def EventRecord.pair (r : EventRecord) : Pair := ⟨r.source, r.seq⟩

/-- Conditions 2 to 7 of R60, for a record that is pending. -/
def State.eligible (s : State) (a : Agent) (r : EventRecord) : Bool :=
  !s.held r.source &&
  r.mayGoTo.getLsbD a.val &&
  !r.declined.getLsbD a.val &&
  decide ((s.port a).threshold < r.cls) &&
  decide ((s.port a).stack.length < Config.stackDepth) &&
  (match (s.port a).stack with
   | [] => true
   | top :: _ => decide (top.cls < r.cls))

/-- The record a scan chooses for agent a: the first eligible one (R47, R48). -/
def State.selection (s : State) (a : Agent) : Option EventRecord := s.pendingRecords.find? (s.eligible a)

/-- The result of the re-evaluation of R49: some pending record is eligible for a. -/
def State.hasWork (s : State) (a : Agent) : Bool := s.pendingRecords.any (s.eligible a)

/-! ## The service stack (R63, R66, R87 to R91) -/

/-- A tick reaches a port (R89): a RUNNING timer lowers its top record's remaining time, or finds its last tick. -/
def Port.ticked (p : Port) : Port :=
  match p.stack with
  | [] => p
  | r :: rest =>
    if p.state = .draining then p
    else
      match r.remaining with
      | none => p
      | some n =>
        if n.toNat ≤ 1 then { p with tickDue := true }
        else { p with stack := { r with remaining := some (n - 1) } :: rest }

/-- A port whose stack changes at the top. A tick still due at the port reaches the new top (R91). -/
def Port.withStack (p : Port) (stack : List EventRecord) : Port :=
  if p.tickDue then { p with stack := stack, tickDue := false }.ticked else { p with stack := stack }

/-- A record joins the withdrawn list at the newest position (R71). -/
def Port.withdraw (p : Port) (x : Pair) : Port :=
  let kept := p.withdrawn.filter (· != x) ++ [x]
  { p with withdrawn := kept.drop (kept.length - Config.stackDepth) }

/-- A pair leaves the withdrawn list (R72). -/
def Port.forget (p : Port) (x : Pair) : Port := { p with withdrawn := p.withdrawn.filter (· != x) }

def State.setLastResult (s : State) (a : Agent) (x : LastResult) : State :=
  s.setPort a { s.port a with lastResult := x }

/-- The record leaving agent a's stack at the top; the record beneath becomes the top (R66). -/
def State.pop (s : State) (a : Agent) : State := s.setPort a ((s.port a).withStack (s.port a).stack.tail)

/-- A record handed back enters the head of its class queue. An internal record whose raised-again flag is set takes a
merge of the latest cause as it does, and the flag is cleared (R31, R42). -/
def State.handBack (s : State) (r : EventRecord) : State :=
  match internalOf r.source with
  | none => s.insertHead r
  | some i =>
    let x := s.internal i
    if x.raisedAgain then
      (s.setInternal i { x with raisedAgain := false }).insertHead
        { r with count := satByte r.count, payload := .two x.latest0 x.latest1 }
    else s.insertHead r

/-! ## The receiver's grant (R171, R175) -/

/-- G_out grows by one; while UP a CRD becomes due unless a frame that will carry the growth is due (R171, R175). -/
def State.growGrant (s : State) : State :=
  let s1 := { s with receiver := { s.receiver with gOut := s.receiver.gOut + 1 } }
  if s.link.state = .up && !s.pair.ackDue && !s.pair.nakDue && !s.pair.crdDue then
    { s1 with pair := { s1.pair with crdDue := true } }
  else s1

/-! ## An order the spec leaves open (log 6) -/

/-- `run` on each element of a list once, in a free order: while two or more are left, the next is chosen by the free
value. `fuel` is the number of elements. -/
def inFreeOrder {α : Type} (run : α → State → State) : Nat → List α → State → State
  | 0, _, s => s
  | _ + 1, [], s => s
  | _ + 1, [x], s => run x s
  | fuel + 1, x :: y :: rest, s =>
    let all := x :: y :: rest
    let k := Config.freeChoice s.choices % all.length
    inFreeOrder run fuel (all.eraseIdx k) (run (all.getD k x) { s with choices := s.choices + 1 })

/-- `inFreeOrder` over the whole list. -/
def State.settle {α : Type} (s : State) (run : α → State → State) (xs : List α) : State :=
  inFreeOrder run xs.length xs s

/-! ## Answering -/

/-- A meaning while RESET_N is high; while it is low every block stays at its power-on values (R184). -/
def whileRunning (s : State) (f : State → State) : Result := .next (if s.inReset then s else f s)

end Sys2Proof.Machine
end

