-- ==== Sys2Proof/Machine/Arrivals.lean ====
section
/-!
DEFINITION. Arrivals and how each is resolved (R19, R29, R33 to R36), freeing a record and its notices (R11), re-arming
level lines (R24), and the arrivals an event sets off (R37).
-/
namespace Sys2Proof.Machine

/-- An arrival: its source, its data, and the count a record made from it starts at (R1, R19). -/
structure Arrival where
  source : Source
  payload : Payload
  count : Byte
  deriving DecidableEq, Repr

/-- The outcomes of R19. -/
inductive ArrivalOutcome where
  | ignored
  | discarded
  | merged
  | allocated
  | diverted
  | lost
  | overflow
  deriving DecidableEq, Repr

/-- Whether an outcome has taken a slot (R19). -/
def ArrivalOutcome.takesSlot : ArrivalOutcome → Bool
  | .allocated => true
  | .diverted => true
  | _ => false

/-- The newest pending record of a source: the one allocated most recently (R34). -/
def State.newestPending (s : State) (src : Source) : Option EventRecord :=
  s.pendingRecords.foldl
    (fun best r =>
      if r.source = src then
        match best with
        | none => some r
        | some b => if b.serial < r.serial then some r else some b
      else best)
    none

/-- The record allocation makes for an arrival in slot k (R1). -/
def State.newRecord (s : State) (a : Arrival) (k : Slot) : EventRecord where
  source := a.source
  seq := s.freshSeq a.source
  cls := (s.entry a.source).cls.toFin
  stamp := s.timebase.tick
  count := if a.count = 0 then 1 else a.count
  payload := a.payload
  returns := 0
  escalated := false
  abandoned := false
  overdue := false
  forwarded :=
    match (s.entry a.source).route with
    | .link _ => true
    | .agents _ => false
  snap := (s.entry a.source).snapshot
  retarget := none
  declined := 0
  remaining := none
  slot := k
  serial := s.pool.nextSerial

/-- The counters after the allocation of a record: the sequence counter is one past its seq (R14). -/
def State.countAllocation (s : State) (r : EventRecord) : State :=
  { s with
    pool :=
      { s.pool with
        nextSeq := s.pool.nextSeq.set r.source.val (r.seq + 1) r.source.isLt
        nextSerial := s.pool.nextSerial + 1 } }

/-- A new record at the tail of its class queue (R35), with the retarget a diversion gives it. -/
def State.allocatePending (s : State) (a : Arrival) (k : Slot) (retarget : Option Agent) : State :=
  let r := { s.newRecord a k with retarget := retarget }
  (s.countAllocation r).insertTail r

/-- A new record at the tail of the Forward Queue, queued (R159). -/
def State.allocateForward (s : State) (a : Arrival) (k : Slot) : State :=
  let r := s.newRecord a k
  let s1 := s.countAllocation r
  s1.setTransmitter { s1.transmitter with queue := s1.transmitter.queue ++ [⟨r, none⟩] }

/-- A COUNT merge (R34). -/
def EventRecord.mergeCount (r : EventRecord) : EventRecord := { r with count := satByte r.count }

/-- A LATEST merge (R34). -/
def EventRecord.mergeLatest (r : EventRecord) (now : TickCount) (data : Payload) : EventRecord :=
  { r with count := satByte r.count, stamp := now, payload := data }

/-- The merge of an internal source: the payload becomes the new cause, the stamp is kept (R29). -/
def EventRecord.mergeCause (r : EventRecord) (w0 w1 : Word) : EventRecord :=
  { r with count := satByte r.count, payload := .two w0 w1 }

/-! ## Internal sources (R29) -/

/-- A raising of internal source i with a cause, resolved by the table of R29. A record of i is in the class queues or
in service, its entry naming no LINK route (R113). -/
def State.raise (s : State) (i : Fin 4) (w0 w1 : Word) : State :=
  let src := internalSource i
  if !(s.entry src).enable then s
  else if s.underPurge src || s.clearing then s
  else
    match s.newestPending src with
    | some r => s.changePending r.slot (·.mergeCause w0 w1)
    | none =>
      if s.outstanding src = 0 then
        match s.freeSlot with
        | some k => s.allocatePending ⟨src, .two w0 w1, 1⟩ k none
        | none => s
      else s.setInternal i { raisedAgain := true, latest0 := w0, latest1 := w1 }

/-- The four internal sources, as 60 + i. -/
def overflowSource : Fin 4 := 0
def deadlineSource : Fin 4 := 1
def linkSource : Fin 4 := 2
def controlSource : Fin 4 := 3

/-- An event sets its flag, then raises CONTROL with a code and a detail (R129, R132, R136). -/
def State.reportControl (s : State) (f : FaultFlag) (code : Nat) (detail : Word) : State :=
  (s.setFault f).raise controlSource (BitVec.ofNat 16 code) detail

/-! ## Arrival resolution (R33 to R36) -/

/-- Step 6: the overflow counter rises, the flag is set, and OVERFLOW is raised after it (R36, R133). -/
def State.countOverflow (s : State) (src : Source) : State :=
  let n := satByte s.pool.overflow[src]
  let s1 := { s with pool := { s.pool with overflow := s.pool.overflow.set src.val n src.isLt } }
  (s1.setFault .overflow).raise overflowSource (BitVec.ofNat 16 src.val) (n.setWidth 16)

/-- Step 5 for an arrival whose tests pass, with the free slot k: placed by route and link state (R35). -/
def State.place (s : State) (a : Arrival) (k : Slot) : State × ArrivalOutcome :=
  match (s.entry a.source).route with
  | .agents _ => (s.allocatePending a k none, .allocated)
  | .link _ =>
    if s.link.state = .down then
      match (s.entry a.source).fallback with
      | some b => (s.allocatePending a k (some b), .diverted)
      | none => ({ s with faults := { s.faults with linkLost := satByte s.faults.linkLost } }, .lost)
    else (s.allocateForward a k, .allocated)

/-- The tests of step 5 (R35): outstanding, partition, and for a LINK route off DOWN the Forward Queue's room. -/
def State.hasRoom (s : State) (src : Source) : Bool :=
  decide (s.outstanding src < s.maxOutstanding src) &&
  decide (s.heldCount (partitionOf src) < s.partitionSize (partitionOf src)) &&
  (match (s.entry src).route with
   | .agents _ => true
   | .link _ => s.link.state == .down || decide (s.transmitter.queue.length < Config.forwardLimit))

/-- Steps 5 and 6. A partition with room always has a FREE slot (R9), so the last case cannot come; it overflows. -/
def State.allocateOrOverflow (s : State) (a : Arrival) : State × ArrivalOutcome :=
  if s.hasRoom a.source then
    match s.freeSlot with
    | some k => s.place a k
    | none => (s.countOverflow a.source, .overflow)
  else (s.countOverflow a.source, .overflow)

/-- The resolution of an arrival at a source 0–59 (R33 to R36). -/
def State.resolve (s : State) (a : Arrival) : State × ArrivalOutcome :=
  let e := s.entry a.source
  if !e.enable then (s, .ignored)
  else if s.underPurge a.source then (s, .discarded)
  else if s.clearing then (s, .discarded)
  else
    match e.coalesceMode, s.newestPending a.source with
    | .count, some r => (s.changePending r.slot (·.mergeCount), .merged)
    | .latest, some r => (s.changePending r.slot (·.mergeLatest s.timebase.tick a.payload), .merged)
    | _, _ => s.allocateOrOverflow a

/-! ## Line arrivals (R22 to R25) -/

/-- The stable levels of a 16-line group as a word (R25). -/
def State.levelWord (s : State) (group : Fin 2) : Word :=
  (List.finRange 16).foldl
    (fun w i => if (s.line ⟨16 * group.val + i.val, by omega⟩).stable then w ||| (1 : Word) <<< i.val else w) 0

/-- The arrival a line makes now: with capture on, its group's capture word (R25). -/
def State.lineArrival (s : State) (n : Line) : Arrival where
  source := lineSource n
  payload :=
    if (s.entry (lineSource n)).capture then .one (s.levelWord ⟨n.val / 16, by omega⟩) else .absent
  count := 1

/-- A level line is active while its stable level is the one its mode names (R23). -/
def State.lineActive (s : State) (n : Line) : Bool :=
  match (s.entry (lineSource n)).triggerMode with
  | some .high => (s.line n).stable
  | some .low => !(s.line n).stable
  | _ => false

/-- Whether a completed change of the stable level to `level` makes an arrival under the active trigger mode (R22, R23;
none for a code that names no mode, R106). -/
def State.qualifies (s : State) (n : Line) (level : Bool) : Bool :=
  match (s.entry (lineSource n)).triggerMode with
  | some .rising => level
  | some .falling => !level
  | some .both => true
  | some .high => level
  | some .low => !level
  | none => false

/-! ## Follow-up arrivals (R24, R30, R37) -/

/-- What an event sets off, resolved after it: a re-arm occasion of a line, a raising, or an arrival already made. -/
inductive FollowUp where
  | rearm (line : Line)
  | raise (i : Fin 4) (w0 w1 : Word)
  | arrival (a : Arrival)
  deriving DecidableEq, Repr

/-- A follow-up taken against the state as it stands. A re-arm occasion tests the line first (R24). -/
def followUp (f : FollowUp) (s : State) : State :=
  match f with
  | .rearm n => if s.lineActive n && s.outstanding (lineSource n) = 0 then (s.resolve (s.lineArrival n)).1 else s
  | .raise i w0 w1 => s.raise i w0 w1
  | .arrival a => (s.resolve a).1

/-- Follow-ups at different sources need no order: a free one (R37, R94, R166, R176; log 6). A re-arm that would pass without
an arrival is left out first, so that it takes no part in the choice. -/
def State.followUps (s : State) (fs : List FollowUp) : State :=
  s.settle followUp
    (fs.filter fun
      | .rearm n => s.lineActive n && s.outstanding (lineSource n) == 0
      | _ => true)

/-- The re-arm occasion of every line source (R24). -/
def allLines : List FollowUp := (List.finRange 32).map .rearm

/-! ## Freeing (R11) -/

/-- The notice to the Line Inputs for freed records of these sources: a line source whose outstanding count has fallen
to 0; held to the walk's end while a PURGE of it is in flight (R11, R24). -/
def State.lineNotices (s : State) (freed : List Source) : List FollowUp :=
  freed.eraseDups.filterMap fun src =>
    match lineOf src with
    | some n => if s.outstanding src = 0 && !s.underPurge src then some (.rearm n) else none
    | none => none

/-- The notices after a record of `src` has left its place by COMPLETE or retirement: the receiver's grant grows for a
link channel source, a raised-again flag is cleared and its cause is to be raised (R11, R30), a line is re-armed. -/
def State.freeInService (s : State) (src : Source) : State × List FollowUp :=
  let s1 := if isChannel src then s.growGrant else s
  match internalOf src with
  | some i =>
    let x := s1.internal i
    if x.raisedAgain then (s1.setInternal i { x with raisedAgain := false }, [.raise i x.latest0 x.latest1])
    else (s1, [])
  | none => (s1, s1.lineNotices [src])

end Sys2Proof.Machine
end

