-- ==== Sys2Proof/Machine/Lines.lean ====
section
/-!
DEFINITION. The Line Inputs: pin changes, filter candidates and stable changes (R20 to R26).
-/
namespace Sys2Proof.Machine

/-- The filter length of a line's active entry (R21). -/
def State.filterLength (s : State) (n : Line) : Nat := (s.entry (lineSource n)).filter.toNat

/-- A stable level change of line n: the candidate becomes absent, and the change is offered to the trigger logic,
which makes an arrival or none (R21 to R23). -/
def State.stableChange (s : State) (n : Line) (level : Bool) : State :=
  let s1 := s.setLine n { s.line n with stable := level, candidate := none }
  if s1.qualifies n level then (s1.resolve (s1.lineArrival n)).1 else s1

/-- The Line Inputs see the pin of line n as it stands (R21): at the stable level it cancels a candidate; away from it
with none present it forms one, or changes the stable level at once when the filter length is 0. -/
def State.seePin (s : State) (n : Line) : State :=
  let l := s.line n
  if l.pin = l.stable then s.setLine n { l with candidate := none }
  else
    match l.candidate with
    | some _ => s
    | none =>
      if s.filterLength n = 0 then s.stableChange n l.pin
      else s.setLine n { l with candidate := some { level := l.pin, count := 0, due := false } }

/-- A candidate whose count has reached the filter length becomes the stable level (R21). Two lines of one group whose
candidates complete at the same tick are taken one after the other, so the first one's capture word (R25) shows the
second line at its old level: the model's choice (log 28). -/
def State.takeCandidate (s : State) (n : Line) : State :=
  match (s.line n).candidate with
  | some c => if c.due then s.stableChange n c.level else s
  | none => s

/-- The pin of line n takes a level. A stable change that the last tick made due happened at that tick (R21), so it is
taken before the pin is seen to move (log 4). -/
def State.pinTo (s : State) (n : Line) (level : Bool) : State :=
  if (s.line n).pin = level then s
  else if s.inReset then s.setLine n { s.line n with pin := level }
  else
    let s1 := s.takeCandidate n
    (s1.setLine n { s1.line n with pin := level }).seePin n

/-- PIN_CHANGE (R21). While RESET_N is low the pin moves and the Line Inputs stay at their reset values (R20, R184). -/
def execPinChange (n : Line) (level : Bool) (s : State) : Result := .next (s.pinTo n level)

/-- CANDIDATE_STABLE (R21): no effect on a line whose candidate is not due (log 3). -/
def execCandidateStable (n : Line) (s : State) : Result := whileRunning s fun s => s.takeCandidate n

/-- Whether a line's candidate is due. -/
def LineInput.isDue (l : LineInput) : Bool :=
  match l.candidate with
  | some c => c.due
  | none => false

/-- The lines whose stable change the last tick made due and that is still to be taken (log 4). -/
def State.dueLines (s : State) : List Line := (List.finRange 32).filter fun n => (s.line n).isDue

/-- Those stable changes taken, in a free order (log 6). -/
def State.takeDueLines (s : State) : State := s.settle (fun n t => t.takeCandidate n) s.dueLines

/-- A tick at a line (R21, R26): a present candidate whose pin still shows its level is counted, and is due when its
count has reached the filter length f. -/
def LineInput.ticked (l : LineInput) (f : Nat) : LineInput :=
  match l.candidate with
  | some c =>
    if l.pin = c.level then
      { l with candidate := some { c with count := satFin c.count, due := decide (f ≤ (satFin c.count).val) } }
    else l
  | none => l

/-- The lines after a tick. -/
def State.tickLines (s : State) : State :=
  { s with lines := Vector.ofFn fun n => (s.line n).ticked (s.filterLength n) }

/-- A line at the COMMIT switch (R26), under a new filter length f: with f = 0 a candidate becomes the stable level;
otherwise it keeps its level and count. None is due here, since the stable changes of the last tick are taken before the
switch (log 20, 22). -/
def LineInput.switched (l : LineInput) (f : Nat) : LineInput :=
  match l.candidate with
  | some c =>
    if f = 0 then { l with stable := c.level, candidate := none } else l
  | none => l

/-- The lines whose candidate becomes the stable level at the switch. -/
def State.switchChanges (s : State) : List Line :=
  (List.finRange 32).filter fun n => s.filterLength n = 0 && (s.line n).candidate.isSome

/-- The Line Inputs at the COMMIT switch, the new entries being active: the stable changes it completes make their
arrivals under the new trigger modes, then the re-arm occasion of every line is taken (R24, R26, R115; log 20). -/
def State.switchLines (s : State) : State :=
  let changed := s.switchChanges
  let s1 := { s with lines := Vector.ofFn fun n => (s.line n).switched (s.filterLength n) }
  let arrivals := (changed.filter fun n => s1.qualifies n (s1.line n).stable).map fun n =>
    FollowUp.arrival (s1.lineArrival n)
  (s1.followUps arrivals).followUps allLines

end Sys2Proof.Machine
end

