-- ==== Sys2Proof/Machine/Frames.lean ====
section
/-!
DEFINITION. Link frames as bytes (R143, R201, R202), the CRC (R144), and the receiver's frame logic (R145).
-/
namespace Sys2Proof.Machine

/-- One shift of the CRC register (R144). -/
def crcShift (r : Word) : Word := if r.getLsbD 15 then (r <<< 1) ^^^ 0x1021 else r <<< 1

/-- Taking one byte into the CRC register: exclusive-OR into the high 8 bits, then eight shifts (R144). -/
def crcByte (r : Word) (b : Byte) : Word :=
  crcShift (crcShift (crcShift (crcShift (crcShift (crcShift (crcShift (crcShift (r ^^^ (b.setWidth 16 <<< 8)))))))))

/-- The CRC over the KIND byte and the body (R144). -/
def crc (bytes : List Byte) : Word := bytes.foldl crcByte 0xFFFF

/-- The low half of a word, sent first. -/
def lowHalf (w : Word) : Byte := w.extractLsb' 0 8

/-- The high half of a word. -/
def highHalf (w : Word) : Byte := w.extractLsb' 8 8

/-- The six kinds (R143). -/
inductive FrameKind where
  | hello
  | helloAck
  | evt
  | ack
  | nak
  | crd
  deriving DecidableEq, Repr

/-- The KIND codes (R201). -/
def FrameKind.code : FrameKind → Byte
  | .hello => 0x11
  | .helloAck => 0x12
  | .evt => 0x21
  | .ack => 0x31
  | .nak => 0x32
  | .crd => 0x33

/-- The kind a KIND byte names (R145, R202). -/
def kindOf (b : Byte) : Option FrameKind :=
  if b = 0x11 then some .hello
  else if b = 0x12 then some .helloAck
  else if b = 0x21 then some .evt
  else if b = 0x31 then some .ack
  else if b = 0x32 then some .nak
  else if b = 0x33 then some .crd
  else none

def Frame.kind : Frame → FrameKind
  | .hello _ _ => .hello
  | .helloAck _ _ => .helloAck
  | .evt _ _ _ _ => .evt
  | .ack _ _ => .ack
  | .nak _ _ => .nak
  | .crd _ => .crd

/-- The number of payload words. -/
def payloadLen : Payload → Nat
  | .absent => 0
  | .one _ => 1
  | .two _ _ => 2

/-- Payload words as bytes, each low byte first (R143). -/
def payloadBytes : Payload → List Byte
  | .absent => []
  | .one w => [lowHalf w, highHalf w]
  | .two w v => [lowHalf w, highHalf w, lowHalf v, highHalf v]

/-- The body bytes of a frame (R143, R201). The channel byte has bits 7–4 clear (R202). -/
def Frame.body : Frame → List Byte
  | .hello session grant => [session, grant]
  | .helloAck session grant => [session, grant]
  | .evt seq channel count payload =>
    [seq, channel.setWidth 8, count, BitVec.ofNat 8 (payloadLen payload)] ++ payloadBytes payload
  | .ack next grant => [next, grant]
  | .nak next grant => [next, grant]
  | .crd grant => [grant]

/-- The bytes the CRC covers (R144). -/
def Frame.covered (f : Frame) : List Byte := f.kind.code :: f.body

/-- A frame as its bytes in the order sent (R201). -/
def Frame.bytes (f : Frame) : List Byte :=
  Config.syncByte :: f.covered ++ [lowHalf (crc f.covered), highHalf (crc f.covered)]

/-- A word from its low and high byte. -/
def wordOf (low high : Byte) : Word := high ++ low

/-- The frame whose KIND and body bytes are these; none when an EVT's channel is above 15, or when they are no frame's
(R145, R202). -/
def parseCovered : List Byte → Option Frame
  | [] => none
  | k :: body =>
    match kindOf k, body with
    | some .hello, [session, grant] => some (.hello session grant)
    | some .helloAck, [session, grant] => some (.helloAck session grant)
    | some .ack, [next, grant] => some (.ack next grant)
    | some .nak, [next, grant] => some (.nak next grant)
    | some .crd, [grant] => some (.crd grant)
    | some .evt, seq :: channel :: count :: _ :: words =>
      if channel.toNat ≤ 15 then
        match words with
        | [] => some (.evt seq (channel.setWidth 4) count .absent)
        | [l, h] => some (.evt seq (channel.setWidth 4) count (.one (wordOf l h)))
        | [l, h, m, i] => some (.evt seq (channel.setWidth 4) count (.two (wordOf l h) (wordOf m i)))
        | _ => none
      else none
    | _, _ => none

/-- Whether the KIND byte and body bytes held make the body complete (R143). -/
def bodyComplete : List Byte → Bool
  | [] => false
  | k :: body =>
    match kindOf k with
    | some .evt =>
      match body with
      | _ :: _ :: _ :: paylen :: words => decide (words.length = 2 * paylen.toNat)
      | _ => false
    | some .crd => decide (body.length = 1)
    | _ => decide (body.length = 2)

/-- Whether the byte just held is an EVT paylen above 2 (R145). -/
def badPaylen : List Byte → Bool
  | [k, _, _, _, paylen] => decide (kindOf k = some .evt) && decide (2 < paylen.toNat)
  | _ => false

/-- What a byte does at the frame logic (R145). -/
inductive ByteResult where
  | advance (logic : FrameLogic)
  | discard
  | good (frame : Frame)
  deriving DecidableEq, Repr

/-- The frame logic takes a byte with a good stop bit (R145). -/
def FrameLogic.take (l : FrameLogic) (b : Byte) : ByteResult :=
  match l with
  | .hunt => .advance (if b = Config.syncByte then .kind else .hunt)
  | .kind => if (kindOf b).isSome then .advance (.body [b]) else .discard
  | .body held =>
    let held' := held ++ [b]
    if badPaylen held' then .discard
    else if bodyComplete held' then .advance (.check held' none)
    else .advance (.body held')
  | .check held none => .advance (.check held (some b))
  | .check held (some low) =>
    if wordOf low b = crc held then
      match parseCovered held with
      | some f => .good f
      | none => .discard
    else .discard

/-- The frame logic is where the last byte of frame f can come: it holds all of f but its last byte, or it is in HUNT,
the whole frame then being received as one event (log 16). -/
def FrameLogic.awaits (l : FrameLogic) (f : Frame) : Bool :=
  l == .hunt || l == .check f.covered (some (lowHalf (crc f.covered)))

end Sys2Proof.Machine
end

