-- ==== Sys2Proof/Machine/Link.lean ====
section
/-!
DEFINITION. The Event Link (Chapters 8 and 9): stop, start, the handshake, peer restart, DOWN, the Forward Queue and
its acknowledgement, the Receiver, the arbiter of the transmit pair, and the receipt of bytes and frames.
-/
namespace Sys2Proof.Machine

/-! ## The Transmitter's derived values (R161, R162) -/

/-- The number of sent records. -/
def Transmitter.sent (t : Transmitter) : Nat := t.queue.countP (·.linkSeq.isSome)

/-- The link sequence number of the oldest sent record; the send seq when none is sent (R161). -/
def Transmitter.oldestSent (t : Transmitter) : Byte := (t.queue.findSome? (·.linkSeq)).getD t.sendSeq

/-- Every sent record becomes queued again, keeping its position (R149, R155, R160). -/
def Transmitter.requeued (t : Transmitter) : Transmitter :=
  { t with queue := t.queue.map fun f => { f with linkSeq := none } }

/-- The send credit (R162). -/
def State.credit (s : State) : Nat :=
  let d := (s.link.peerGrant - s.transmitter.firstSends).toNat
  if d ≤ 16 then d else 0

/-- The frame being sent goes on to its end, and its end acts on no timer: a HELLO of a handshake that is over (R151;
log 10), an EVT begun before a NAK or an expiry that starts a resend (R165, R168). -/
def TransmitPair.disarmed (p : TransmitPair) : TransmitPair :=
  { p with sending := p.sending.map fun x => { x with live := false } }

/-- Every due request is cancelled; a HELLO being sent is sent to its end and counts no more (R147, R149; log 10). -/
def TransmitPair.cancelled (p : TransmitPair) : TransmitPair :=
  { p.disarmed with helloDue := false, helloAckDue := false, nakDue := false, ackDue := false, crdDue := false }

/-! ## LINK_STOP and LINK_START (R149, R150) -/

/-- The link is stopped (R149, R161). -/
def State.stopLink (s : State) : State :=
  { s with
    link := { s.link with state := .stopped, attempts := 0, timer := .stopped }
    pair := s.pair.cancelled
    transmitter := { s.transmitter.requeued with retry := 0, timer := .stopped, mark := none } }

/-- A handshake begins: the session number rises, a HELLO becomes due (R150). -/
def State.startLink (s : State) : State :=
  { s with
    link := { s.link with state := .helloSent, session := s.link.session + 1, attempts := 0 }
    pair := { s.pair with helloDue := true } }

/-! ## UP, restart, DOWN (R153, R155, R156) -/

/-- The Transmitter at entry into UP and at a peer restart (R153, R155, R161). -/
def Transmitter.fresh (t : Transmitter) : Transmitter :=
  { t with sendSeq := 0, firstSends := 0, retry := 0, timer := .stopped, mark := none }

/-- The link comes UP on a matching HELLO_ACK (R153). A due HELLO is cancelled; a CRD becomes due when the carried
grant differs from G_out (R175). -/
def State.comeUp (s : State) (grant : Byte) : State :=
  { s with
    link := { s.link with state := .up, timer := .stopped, peerGrant := grant }
    pair :=
      { s.pair.disarmed with
        helloDue := false, crdDue := s.pair.crdDue || s.receiver.carried != s.receiver.gOut }
    transmitter := s.transmitter.fresh
    receiver := { s.receiver with expected := 0, nakFlag := false } }

/-- A raising of LINK with a code and this part's session number (R135). -/
def State.linkCause (s : State) (code : Nat) : FollowUp :=
  .raise linkSource (BitVec.ofNat 16 code) (s.link.session.setWidth 16)

/-- A HELLO taken while UP (R155). -/
def State.peerRestart (s : State) (session grant : Byte) : State :=
  let s1 : State :=
    { s with
      link := { s.link with peerGrant := grant }
      pair :=
        { s.pair with
          helloAckDue := true, nakDue := false, ackDue := false, crdDue := false, answerSession := session }
      transmitter := s.transmitter.requeued.fresh
      receiver := { s.receiver with expected := 0, nakFlag := false } }
  (s1.setFault .peerRestart).raise linkSource 3 (s.link.session.setWidth 16)

/-- One record of the Forward Queue at link loss: diverted to its snapshot fallback, or lost and counted (R176). -/
def State.divertOrLose (s : State) (f : Forwarded) : State :=
  match f.record.snap.fallback with
  | some b => s.insertTail ({ f.record with retarget := some b } : EventRecord).testDeclined
  | none => { s with faults := { s.faults with linkLost := satByte s.faults.linkLost } }

/-- The code of a DOWN cause in the LINK cause word (R135). -/
def DownCause.linkCode (c : DownCause) : Nat := c.code

/-- The link enters DOWN (R156, R176): the Forward Queue is emptied from oldest to newest, then LINK is raised beside
the re-arms that lost records set off. -/
def State.enterDown (s : State) (cause : DownCause) : State :=
  let s1 : State :=
    { s with
      link := { s.link with state := .down, timer := .stopped, downCause := cause }
      pair := s.pair.cancelled
      transmitter := { s.transmitter with queue := [], timer := .stopped, mark := none } }
  let s2 := s.transmitter.queue.foldl State.divertOrLose (s1.setFault .linkDown)
  let lost := (s.transmitter.queue.filter fun f => f.record.snap.fallback.isNone).map fun f => f.record.source
  s2.followUps (s2.lineNotices lost ++ [s.linkCause cause.linkCode])

/-! ## Frames taken (R152, R154, R162, R166, R167, R172 to R174) -/

/-- A good HELLO (R152, R155). -/
def State.takeHello (s : State) (session grant : Byte) : State :=
  match s.link.state with
  | .helloSent =>
    { s with
      link := { s.link with peerGrant := grant }
      pair := { s.pair with helloAckDue := true, answerSession := session } }
  | .up => s.peerRestart session grant
  | .stopped => s
  | .down => s

/-- A good HELLO_ACK (R152, R154). -/
def State.takeHelloAck (s : State) (session grant : Byte) : State :=
  if s.link.state = .helloSent ∧ session = s.link.session then s.comeUp grant else s

/-- The mark after records have been freed: kept while it names a sent record, else the new oldest (R164). -/
def Transmitter.movedMark (t : Transmitter) (mark : Option Byte) : Option Byte :=
  match mark with
  | none => none
  | some m =>
    if t.queue.any (·.linkSeq == some m) then some m
    else if t.sent = 0 then none
    else some t.oldestSent

/-- The k oldest records leave the Forward Queue by acknowledgement; the mark moves, and the timer is loaded when
records remain sent and STOPPED when none do (R164, R166), also when a resend has not begun (log 31). -/
def Transmitter.acknowledged (t : Transmitter) (k : Nat) (timeout : Word) : Transmitter :=
  let t1 := { t with queue := t.queue.drop k }
  { t1 with
    mark := t1.movedMark t.mark
    timer := if t1.sent = 0 then .stopped else .running timeout }

/-- The peer grant is replaced (R162). -/
def State.setPeerGrant (s : State) (grant : Byte) : State := { s with link := { s.link with peerGrant := grant } }

/-- How many sent records a next expected seq acknowledges: its distance from the oldest sent seq (R166). -/
def Transmitter.distance (t : Transmitter) (next : Byte) : Nat := (next - t.oldestSent).toNat

/-- The sources of the k oldest records of the Forward Queue. -/
def Transmitter.oldestSources (t : Transmitter) (k : Nat) : List Source := (t.queue.take k).map fun f => f.record.source

/-- A good ACK (R166). R166 frees from the oldest in one step and gives no order to the re-arms that several freed lines
set off: a free one (log 6). -/
def State.takeAck (s : State) (next grant : Byte) : State :=
  if s.link.state = .up then
    let t := s.transmitter
    let k := t.distance next
    let s1 := s.setPeerGrant grant
    if k = 0 ∨ t.sent < k then s1
    else
      let s2 := s1.setTransmitter { t.acknowledged k s.params.timeout with retry := 0 }
      s2.followUps (s2.lineNotices (t.oldestSources k))
  else s

/-- The Transmitter starts every sent record again from a mark: the mark is set, the ACK timer stops and stays STOPPED
until the end of the first frame resent after it, so an EVT still being sent loads no timer at its end (R165, R167,
R168). -/
def State.startResend (s : State) (t : Transmitter) (mark : Option Byte) : State :=
  { s with transmitter := { t with mark := mark, timer := .stopped }, pair := s.pair.disarmed }

/-- A good NAK (R167). The re-arms of several freed lines come in a free order, as after an ACK (log 6). -/
def State.takeNak (s : State) (next grant : Byte) : State :=
  if s.link.state = .up then
    let t := s.transmitter
    let k := t.distance next
    let s1 := s.setPeerGrant grant
    if t.sent < k then s1
    else
      let t1 := if k = 0 then t else t.acknowledged k s.params.timeout
      let s2 :=
        if t1.sent = 0 then s1.setTransmitter t1
        else s1.startResend { t1 with retry := satFin t1.retry } (some next)
      s2.followUps (s2.lineNotices (t.oldestSources k))
  else s

/-- A good CRD (R162). -/
def State.takeCrd (s : State) (grant : Byte) : State := if s.link.state = .up then s.setPeerGrant grant else s

/-- G_out grows for an in-order frame whose arrival took no slot (R172). Whether a CRD becomes due beside the ACK that
the same step makes due is left open by R172 and R175, and is a free value (log 7). -/
def State.growGrantBesideAck (s : State) : State :=
  let s1 := { s with receiver := { s.receiver with gOut := s.receiver.gOut + 1 } }
  if !s.pair.ackDue && !s.pair.nakDue && !s.pair.crdDue then
    { s1 with
      choices := s.choices + 1
      pair := { s1.pair with crdDue := decide (Config.freeChoice s.choices % 2 = 1) } }
  else s1

/-- An in-order EVT frame that finds a free slot of the link reserve (R172). -/
def State.deliverEvt (s : State) (channel : Fin 16) (count : Byte) (payload : Payload) : State :=
  let resolved := s.resolve ⟨channelSource channel, payload, count⟩
  let s1 := if resolved.2.takesSlot then resolved.1 else resolved.1.growGrantBesideAck
  { s1 with
    receiver := { s1.receiver with expected := s1.receiver.expected + 1, nakFlag := false }
    pair := { s1.pair with ackDue := true } }

/-- An EVT frame out of order: a duplicate makes an ACK due; any other makes a NAK due once (R174). -/
def State.evtOutOfOrder (s : State) (seq : Byte) : State :=
  let d := (s.receiver.expected - seq).toNat
  if 1 ≤ d ∧ d ≤ 4 then { s with pair := { s.pair with ackDue := true } }
  else if s.receiver.nakFlag then s
  else { s with pair := { s.pair with nakDue := true }, receiver := { s.receiver with nakFlag := true } }

/-- A good EVT (R172 to R174). -/
def State.takeEvt (s : State) (seq : Byte) (channel : Fin 16) (count : Byte) (payload : Payload) : State :=
  if s.link.state = .up then
    if seq = s.receiver.expected then
      if s.heldCount .linkReserve < s.pool.linkReserve.toNat then s.deliverEvt channel count payload
      else (s.setFault .creditOverrun).raise linkSource 4 (s.link.session.setWidth 16)
    else s.evtOutOfOrder seq
  else s

/-- A good frame is handed to the Link Session and the frame logic returns to HUNT (R145, R146). -/
def State.takeFrame (s : State) (f : Frame) : State :=
  let s1 := { s with receiver := { s.receiver with logic := .hunt } }
  match f with
  | .hello session grant => s1.takeHello session grant
  | .helloAck session grant => s1.takeHelloAck session grant
  | .evt seq channel count payload => s1.takeEvt seq channel.toFin count payload
  | .ack next grant => s1.takeAck next grant
  | .nak next grant => s1.takeNak next grant
  | .crd grant => s1.takeCrd grant

/-- The frame f is received whole, if its last byte can come here (R145; log 3, 16). -/
def State.receiveFrame (s : State) (f : Frame) : State := if s.receiver.logic.awaits f then s.takeFrame f else s

/-- HELLO_TAKEN (R152). -/
def execHelloTaken (session grant : Byte) (s : State) : Result :=
  whileRunning s fun s => s.receiveFrame (.hello session grant)

/-- HELLO_ACK_TAKEN (R152). -/
def execHelloAckTaken (session grant : Byte) (s : State) : Result :=
  whileRunning s fun s => s.receiveFrame (.helloAck session grant)

/-- EVT_TAKEN (R172). -/
def execEvtTaken (seq : Byte) (channel : Fin 16) (count : Byte) (payload : Payload) (s : State) : Result :=
  whileRunning s fun s => s.receiveFrame (.evt seq (BitVec.ofFin channel) count payload)

/-- ACK_TAKEN (R166). -/
def execAckTaken (next grant : Byte) (s : State) : Result := whileRunning s fun s => s.receiveFrame (.ack next grant)

/-- NAK_TAKEN (R167). -/
def execNakTaken (next grant : Byte) (s : State) : Result := whileRunning s fun s => s.receiveFrame (.nak next grant)

/-- CRD_TAKEN (R162). -/
def execCrdTaken (grant : Byte) (s : State) : Result := whileRunning s fun s => s.receiveFrame (.crd grant)

/-- A frame is discarded: counted, CRC set, hunting resumes with the next byte (R138, R145). -/
def State.discardFrame (s : State) : State :=
  let s1 := s.setFault .crc
  { s1 with
    faults := { s1.faults with crcErrors := satByte s1.faults.crcErrors }
    receiver := { s1.receiver with logic := .hunt } }

/-- A byte with a good stop bit reaches the frame logic (R145). -/
def State.receiveByte (s : State) (b : Byte) : State :=
  match s.receiver.logic.take b with
  | .advance l => { s with receiver := { s.receiver with logic := l } }
  | .discard => s.discardFrame
  | .good f => s.takeFrame f

/-- BYTE_RECEIVED (R145). A byte that completes or discards a frame has the effect R145 gives it (log 15). -/
def execByteReceived (b : Byte) (s : State) : Result := whileRunning s fun s => s.receiveByte b

/-- Damage to the frame being received (R142, R145). In HUNT a framing error drops its byte without a count, and there
is no frame to truncate. -/
def State.damage (s : State) (d : Damage) : State :=
  match d with
  | .byte b => if s.receiver.logic.take b = .discard then s.discardFrame else s
  | .framingError => if s.receiver.logic = .hunt then s else s.discardFrame
  | .truncation => if s.receiver.logic = .hunt then s else s.discardFrame

/-- FRAME_DISCARDED (R145). -/
def execFrameDiscarded (d : Damage) (s : State) : Result := whileRunning s fun s => s.damage d

/-! ## The arbiter of the transmit pair (R147) -/

/-- A first send is allowed (R163). -/
def State.firstSendAllowed (s : State) : Bool :=
  s.transmitter.mark.isNone && s.transmitter.queue.any (·.linkSeq.isNone) &&
  decide (s.transmitter.sent < Config.windowLimit) && decide (0 < s.credit)

/-- An EVT request is due (R163). -/
def State.evtDue (s : State) : Bool := s.link.state == .up && (s.transmitter.mark.isSome || s.firstSendAllowed)

/-- The highest due request (R147). -/
def State.nextRequest (s : State) : Option FrameKind :=
  if s.pair.helloDue then some .hello
  else if s.pair.helloAckDue then some .helloAck
  else if s.pair.nakDue then some .nak
  else if s.pair.ackDue then some .ack
  else if s.pair.crdDue then some .crd
  else if s.evtDue then some .evt
  else none

/-- Whether the pair can start a frame: it is idle, or the frame last begun is of a kind whose end has no step of its
own, and has ended (log 9). -/
def TransmitPair.free (p : TransmitPair) : Bool :=
  match p.sending with
  | none => true
  | some x => x.frame.kind != .hello && x.frame.kind != .evt

/-- The arbiter starts a frame of kind k now (R147). -/
def State.starts (s : State) (k : FrameKind) : Bool := s.pair.free && s.nextRequest == some k

/-- A frame begins on the pair. -/
def TransmitPair.begin (p : TransmitPair) (f : Frame) (live : Bool) : TransmitPair := { p with sending := some ⟨f, live⟩ }

/-- The grant a HELLO or HELLO_ACK sets: LINK_RESERVE less the held count of the link reserve (R146). -/
def State.openingGrant (s : State) : Byte :=
  BitVec.ofNat 8 (s.pool.linkReserve.toNat - s.heldCount .linkReserve)

/-- HELLO_SEND (R146, R170). -/
def State.sendHello (s : State) : State :=
  if s.starts .hello then
    let g := s.openingGrant
    { s with
      receiver := { s.receiver with gOut := g, carried := g }
      pair := { s.pair with helloDue := false }.begin (.hello s.link.session g) true }
  else s

def execHelloSend (s : State) : Result := whileRunning s State.sendHello

/-- The last byte of a HELLO is sent (R151): the attempts rise and the interval timer is loaded, when the handshake it
belongs to is still in progress (log 10). -/
def State.endHello (s : State) : State :=
  match s.pair.sending with
  | some ⟨.hello _ _, live⟩ =>
    let s1 := { s with pair := { s.pair with sending := none } }
    if live then
      { s1 with
        link := { s1.link with attempts := satFin s1.link.attempts, timer := .running s1.params.timeout } }
    else s1
  | _ => s

def execHelloSendEnd (s : State) : Result := whileRunning s State.endHello

/-- HELLO_ACK_SEND (R146, R147, R170). -/
def State.sendHelloAck (s : State) : State :=
  if s.starts .helloAck then
    let g := s.openingGrant
    { s with
      receiver := { s.receiver with gOut := g, carried := g }
      pair := { s.pair with helloAckDue := false }.begin (.helloAck s.pair.answerSession g) false }
  else s

def execHelloAckSend (s : State) : Result := whileRunning s State.sendHelloAck

/-- The outbound channel of a forwarded record: of its snapshot route (R163). A record of the Forward Queue has a LINK
route (R158; log 17). -/
def EventRecord.channel (r : EventRecord) : BitVec 4 :=
  match r.snap.targets with
  | .link c => c
  | .agents _ => 0

/-- The EVT frame of a record under a link sequence number (R163). -/
def EventRecord.evtFrame (r : EventRecord) (seq : Byte) : Frame := .evt seq r.channel r.count r.payload

/-- The oldest queued record becomes sent with a link sequence number (R163). -/
def markFirstQueued (seq : Byte) : List Forwarded → List Forwarded
  | [] => []
  | f :: rest => if f.linkSeq.isNone then { f with linkSeq := some seq } :: rest else f :: markFirstQueued seq rest

/-- FIRST_SEND (R163). -/
def State.sendFirst (s : State) : State :=
  if s.starts .evt && s.transmitter.mark.isNone then
    let t := s.transmitter
    match t.queue.find? (·.linkSeq.isNone) with
    | some f =>
      { s with
        transmitter :=
          { t with
            queue := markFirstQueued t.sendSeq t.queue
            sendSeq := t.sendSeq + 1
            firstSends := t.firstSends + 1 }
        pair := s.pair.begin (f.record.evtFrame t.sendSeq) true }
    | none => s
  else s

def execFirstSend (s : State) : Result := whileRunning s State.sendFirst

/-- RETRANSMISSION (R164). -/
def State.resend (s : State) : State :=
  match s.transmitter.mark with
  | some m =>
    if s.starts .evt then
      match s.transmitter.queue.find? (·.linkSeq == some m) with
      | some f =>
        { s with
          transmitter :=
            { s.transmitter with mark := if m + 1 = s.transmitter.sendSeq then none else some (m + 1) }
          pair := s.pair.begin (f.record.evtFrame m) true }
      | none => s
    else s
  | none => s

def execRetransmission (s : State) : Result := whileRunning s State.resend

/-- The last byte of an EVT is sent (R165): the ACK timer is loaded if STOPPED and a record is still sent, but not at
the end of a frame begun before the NAK or expiry that stopped it, since the timer is STOPPED until the end of the first
frame resent after that (R165, R168). -/
def State.endEvt (s : State) : State :=
  match s.pair.sending with
  | some ⟨.evt _ _ _ _, live⟩ =>
    let s1 := { s with pair := { s.pair with sending := none } }
    if live = true ∧ s.transmitter.timer = .stopped ∧ 0 < s.transmitter.sent then
      s1.setTransmitter { s.transmitter with timer := .running s.params.timeout }
    else s1
  | _ => s

def execEvtSendEnd (s : State) : Result := whileRunning s State.endEvt

/-- ACK_SEND (R172, R170). -/
def State.sendAck (s : State) : State :=
  if s.starts .ack then
    { s with
      receiver := { s.receiver with carried := s.receiver.gOut }
      pair := { s.pair with ackDue := false }.begin (.ack s.receiver.expected s.receiver.gOut) false }
  else s

def execAckSend (s : State) : Result := whileRunning s State.sendAck

/-- NAK_SEND (R174, R170). -/
def State.sendNak (s : State) : State :=
  if s.starts .nak then
    { s with
      receiver := { s.receiver with carried := s.receiver.gOut }
      pair := { s.pair with nakDue := false }.begin (.nak s.receiver.expected s.receiver.gOut) false }
  else s

def execNakSend (s : State) : Result := whileRunning s State.sendNak

/-- CRD_SEND (R175, R170). -/
def State.sendCrd (s : State) : State :=
  if s.starts .crd then
    { s with
      receiver := { s.receiver with carried := s.receiver.gOut }
      pair := { s.pair with crdDue := false }.begin (.crd s.receiver.gOut) false }
  else s

def execCrdSend (s : State) : Result := whileRunning s State.sendCrd

/-! ## Timer expiries (R151, R168) -/

/-- The HELLO interval expires (R151). -/
def State.helloExpiry (s : State) : State :=
  if s.link.timer = .expiring ∧ s.link.state = .helloSent then
    if s.link.attempts.val < Config.helloAttempts then
      { s with link := { s.link with timer := .stopped }, pair := { s.pair with helloDue := true } }
    else s.enterDown .helloTimeout
  else s

/-- HELLO_INTERVAL_EXPIRY (R151): no effect while no expiry is due (log 3). -/
def execHelloIntervalExpiry (s : State) : Result := whileRunning s State.helloExpiry

/-- The ACK timer expires (R168). -/
def State.ackExpiry (s : State) : State :=
  if s.transmitter.timer = .expiring ∧ s.link.state = .up then
    let retry := satFin s.transmitter.retry
    let t := { s.transmitter with retry := retry, timer := .stopped }
    if s.params.retries.toNat < retry.val then (s.setTransmitter t).enterDown .retriesExhausted
    else s.startResend t (if t.sent = 0 then none else some t.oldestSent)
  else s

/-- ACK_TIMER_EXPIRY (R168): no effect while no expiry is due (log 3). -/
def execAckTimerExpiry (s : State) : Result := whileRunning s State.ackExpiry

end Sys2Proof.Machine
end

