-- ==== Sys2Proof/Machine/Commands.lean ====
section
/-!
DEFINITION. The Command Unit (R185 to R191), the ten commands, and the steps of their walks (Chapters 3, 4, 6 and 10).
-/
namespace Sys2Proof.Machine

/-! ## Taking a command (R186 to R190) -/

/-- The command status of a command that ends in the step of its write (R187, R188). -/
def State.finish (s : State) (page : Agent) (code operand : Byte) (st : CommandStatus) (reason : Reason)
    (result : Word) : State :=
  { s with
    command :=
      { status := st, code := code, operand := operand, issuer := page, reason := reason, result := result
        walk := none } }

/-- The command status of a walk that is accepted (R189). -/
def State.startWalk (s : State) (page : Agent) (code operand : Byte) (result : Word) (w : Walk) : State :=
  { s with
    command :=
      { status := .busy, code := code, operand := operand, issuer := page, reason := .noReason, result := result
        walk := some w } }

/-- A write of COMMAND while BUSY: not taken, CMD_OVERRUN set, CONTROL raised with the code written (R190). -/
def State.overrun (s : State) (code : Byte) : State := s.reportControl .cmdOverrun 3 (code.setWidth 16)

/-- A write of COMMAND with a code: an overrun while BUSY, else carried out (R187, R190). -/
def State.takeCommand (s : State) (code : Byte) (carry : State → State) : State :=
  if s.walking then s.overrun code else carry s

/-- The end of the walk in flight: status DONE, the result as it stands (R189). -/
def State.endWalk (s : State) : State := { s with command := { s.command with status := .done, walk := none } }

/-- The result rises by one at a visit that adds to it (R189). -/
def State.countVisit (s : State) : State := { s with command := { s.command with result := s.command.result + 1 } }

/-! ## Edit session (R111 to R115, R122) -/

/-- EDIT_BEGIN (R111). -/
def State.editBegin (page : Agent) (operand : Byte) (s : State) : State :=
  if s.table.frozen then s.finish page 0x01 operand .refused .frozen 0
  else if s.table.session = .closed then
    ({ s with
        table :=
          { s.table with
            staging := s.table.active, stagingDeadlines := s.table.activeDeadlines, session := .opened } } : State).finish
      page 0x01 operand .done .noReason 0
  else s.finish page 0x01 operand .refused .sessionOpen 0

def execEditBegin (page : Agent) (operand : Byte) (s : State) : Result :=
  whileRunning s fun s => s.takeCommand 0x01 (State.editBegin page operand)

/-- EDIT_ABANDON (R112). -/
def State.editAbandon (page : Agent) (operand : Byte) (s : State) : State :=
  if s.table.session = .opened then
    ({ s with table := { s.table with session := .closed } } : State).finish page 0x02 operand .done .noReason 0
  else s.finish page 0x02 operand .refused .noSession 0

def execEditAbandon (page : Agent) (operand : Byte) (s : State) : Result :=
  whileRunning s fun s => s.takeCommand 0x02 (State.editAbandon page operand)

/-- FREEZE (R122). -/
def State.freeze (page : Agent) (operand : Byte) (s : State) : State :=
  if s.table.session = .closed then
    ({ s with table := { s.table with frozen := true } } : State).finish page 0x04 operand .done .noReason 0
  else s.finish page 0x04 operand .refused .sessionOpen 0

def execFreeze (page : Agent) (operand : Byte) (s : State) : Result :=
  whileRunning s fun s => s.takeCommand 0x04 (State.freeze page operand)

/-- The lowest invalid staging entry (R113, R114). -/
def State.invalidEntry (s : State) : Option Source :=
  (List.finRange 64).find? fun src => s.table.staging[src].invalid src

/-- The position of a queue walk at its acceptance: queue 15, before its head (R50, R115). -/
def startPos : QueuePos := ⟨15, 0⟩

/-- The COMMIT switch (R115): the staging entries become the active ones, a regroup walk starts, and the Line Inputs take
the new entries (R26). -/
def State.switchTable (page : Agent) (operand : Byte) (s : State) : State :=
  (({ s with
      table :=
        { s.table with
          active := s.table.staging, activeDeadlines := s.table.stagingDeadlines
          session := .committing } } : State).startWalk page 0x03 operand 0 (.regroup startPos)).switchLines

/-- COMMIT (R113 to R115). A stable change that the last tick completed belongs to the old entries (R21, R26), so it is
taken before the switch (log 22). -/
def State.commit (page : Agent) (operand : Byte) (s : State) : State :=
  if s.table.session = .opened then
    match s.invalidEntry with
    | some src =>
      (s.finish page 0x03 operand .refused .invalid (BitVec.ofNat 16 src.val)).reportControl .commitInvalid 2
        (BitVec.ofNat 16 src.val)
    | none => s.takeDueLines.switchTable page operand
  else s.finish page 0x03 operand .refused .noSession 0

def execCommit (page : Agent) (operand : Byte) (s : State) : Result :=
  whileRunning s fun s => s.takeCommand 0x03 (State.commit page operand)

/-! ## Queue walks (R50) -/

/-- The records of the walk's queue that lie at or behind its position. -/
def State.ahead (s : State) (p : QueuePos) : List EventRecord := (s.queue p.queue).drop p.passed

/-- The position at the next record the walk visits, going on through the ends of queues; none when no record lies at
or behind the position (R50). `fuel` bounds the queues gone through. -/
def State.advance (s : State) : Nat → QueuePos → Option (QueuePos × EventRecord)
  | 0, _ => none
  | fuel + 1, p =>
    match s.ahead p with
    | r :: _ => some (p, r)
    | [] => if h : p.queue.val = 0 then none else s.advance fuel ⟨⟨p.queue.val - 1, by omega⟩, 0⟩

/-- The next visit of a walk at position p. -/
def State.nextVisit (s : State) (p : QueuePos) : Option (QueuePos × EventRecord) := s.advance 16 p

/-- A walk at the end of its queue goes on to the next queue, entering it before its head (R50). -/
def State.nextQueue (s : State) (p : QueuePos) : QueuePos :=
  match s.ahead p with
  | _ :: _ => p
  | [] => if h : p.queue.val = 0 then p else ⟨⟨p.queue.val - 1, by omega⟩, 0⟩

/-- The walk in flight at a new position or none. -/
def State.setWalk (s : State) (w : Walk) : State := { s with command := { s.command with walk := some w } }

/-- The position past a record that stays in its queue. -/
def QueuePos.past (p : QueuePos) : QueuePos := { p with passed := p.passed + 1 }

/-! ## The regroup walk (R117 to R120) -/

/-- An escalated record's retarget after a refresh: kept while the new entry permits it, else the new fallback
(R119). -/
def keptRetarget (e : Entry) (retarget : Option Agent) : Option Agent :=
  match retarget with
  | none => none
  | some b => if e.agentSet.getLsbD b.val || e.fallback = some b then some b else e.fallback

/-- A refreshed record (R118, R119). The declined set of an escalated one is tested once, as R61 gives: against its
retarget as it then stands, or with none against the new targets. R119's words also bear a test against the new targets
beside a retarget, before that one: the model's choice (log 32). -/
def EventRecord.refreshed (r : EventRecord) (e : Entry) : EventRecord :=
  if r.escalated then
    ({ r with snap := e.snapshot, retarget := keptRetarget e r.retarget } : EventRecord).testDeclined
  else
    ({ r with snap := e.snapshot, retarget := none, cls := e.cls.toFin } : EventRecord).testDeclined

/-- The visit of record r at position p of the regroup walk (R117, R118). -/
def State.regroupRecord (s : State) (p : QueuePos) (r : EventRecord) : State :=
  let e := s.entry r.source
  if e.refreshes r.source then
    let r' := r.refreshed e
    if r'.cls = r.cls then (s.changePending r.slot fun _ => r').setWalk (.regroup p.past)
    else (((s.removePending r.slot).insertTail r').setWalk (.regroup p)).countVisit
  else s.setWalk (.regroup p.past)

/-- A step of the regroup walk (R117). -/
def State.regroupVisit (s : State) (m : WalkMove) : State :=
  match s.command.walk with
  | some (.regroup p) =>
    match m with
    | .nextQueue => s.setWalk (.regroup (s.nextQueue p))
    | .record =>
      match s.nextVisit p with
      | some (q, r) => s.regroupRecord q r
      | none => s
  | _ => s

/-- REGROUP_VISIT (R117): no effect while no record is to be visited (log 3). -/
def execRegroupVisit (m : WalkMove) (s : State) : Result := whileRunning s fun s => s.regroupVisit m

/-- The end of the regroup walk (R120). -/
def State.regroupEnd (s : State) : State :=
  match s.command.walk with
  | some (.regroup p) =>
    if (s.nextVisit p).isNone then ({ s with table := { s.table with session := .closed } } : State).endWalk else s
  | _ => s

/-- REGROUP_END (R120): no effect before the walk has visited the end of queue 0 (log 3). -/
def execRegroupEnd (s : State) : Result := whileRunning s State.regroupEnd

/-! ## POST (R28) -/

/-- The POST result of an outcome (R28, R199). DISCARDED does not arise. -/
def postResult : ArrivalOutcome → Word
  | .allocated => 1
  | .diverted => 1
  | .lost => 1
  | .merged => 2
  | .overflow => 3
  | .ignored => 4
  | .discarded => 0

/-- The data a POST carries (R28). -/
def PostUnit.payload (u : PostUnit) : Payload :=
  if u.len = 0 then .absent else if u.len = 1 then .one u.data0 else .two u.data0 u.data1

/-- POST (R28). -/
def State.postCommand (page : Agent) (operand : Byte) (s : State) : State :=
  if h : operand.toNat ≤ 11 then
    if s.post.len = 3 then s.finish page 0x05 operand .refused .badLength 0
    else
      let resolved := s.resolve ⟨⟨32 + operand.toNat, by omega⟩, s.post.payload, 1⟩
      resolved.1.finish page 0x05 operand .done .noReason (postResult resolved.2)
  else s.finish page 0x05 operand .refused .badSource 0

def execPost (page : Agent) (operand : Byte) (s : State) : Result :=
  whileRunning s fun s => s.takeCommand 0x05 (fun s => State.postCommand page operand s)

/-! ## PURGE (R51 to R53) -/

/-- PURGE (R51). -/
def State.purge (page : Agent) (operand : Byte) (s : State) : State :=
  if h : operand.toNat < 64 then s.startWalk page 0x06 operand 0 (.purge ⟨operand.toNat, h⟩ startPos)
  else s.finish page 0x06 operand .refused .badSource 0

def execPurge (page : Agent) (operand : Byte) (s : State) : Result :=
  whileRunning s fun s => s.takeCommand 0x06 (State.purge page operand)

/-- The visit of record r at position p of the PURGE walk of src (R52): freed when it is a record of src, the grant of
a link channel record growing. -/
def State.purgeRecord (s : State) (src : Source) (p : QueuePos) (r : EventRecord) : State :=
  if r.source = src then
    let s1 := (s.removePending r.slot).setWalk (.purge src p)
    (if isChannel src then s1.growGrant else s1).countVisit
  else s.setWalk (.purge src p.past)

/-- A step of the PURGE walk (R52). -/
def State.purgeVisit (s : State) (m : WalkMove) : State :=
  match s.command.walk with
  | some (.purge src p) =>
    match m with
    | .nextQueue => s.setWalk (.purge src (s.nextQueue p))
    | .record =>
      match s.nextVisit p with
      | some (q, r) => s.purgeRecord src q r
      | none => s
  | _ => s

/-- PURGE_VISIT (R52): no effect while no record is to be visited (log 3). -/
def execPurgeVisit (m : WalkMove) (s : State) : Result := whileRunning s fun s => s.purgeVisit m

/-- The end of the PURGE walk (R53): the source leaves the under-PURGE state, its re-arm occasion is taken, DONE. -/
def State.purgeEnd (s : State) : State :=
  match s.command.walk with
  | some (.purge src p) =>
    if (s.nextVisit p).isNone then
      match lineOf src with
      | some n => s.endWalk.followUps [.rearm n]
      | none => s.endWalk
    else s
  | _ => s

/-- PURGE_END (R53): no effect before the walk has visited the end of queue 0 (log 3). -/
def execPurgeEnd (s : State) : Result := whileRunning s State.purgeEnd

/-! ## AGENT_RESET (R81 to R83) -/

/-- A record from whose declined set agent a is removed (R81). -/
def EventRecord.undecline (r : EventRecord) (a : Agent) : EventRecord :=
  { r with declined := r.declined &&& ~~~agentBit a }

/-- Agent a removed from the declined set of every allocated record (R81). -/
def State.undeclineAll (s : State) (a : Agent) : State :=
  { s with
    dispatcher := { s.dispatcher with queues := s.dispatcher.queues.map fun q => q.map (·.undecline a) }
    ports := s.ports.map fun p => { p with stack := p.stack.map (·.undecline a) }
    transmitter :=
      { s.transmitter with queue := s.transmitter.queue.map fun f => { f with record := f.record.undecline a } } }

/-- AGENT_RESET (R81). -/
def State.agentReset (page : Agent) (operand : Byte) (s : State) : State :=
  if h : operand.toNat < 4 then
    let a : Agent := ⟨operand.toNat, h⟩
    let s1 := s.undeclineAll a
    (s1.setPort a { s1.port a with state := .draining, tickDue := false, withdrawn := [] }).startWalk page 0x07 operand 0
      (.agentReset a)
  else s.finish page 0x07 operand .refused .badAgent 0

def execAgentReset (page : Agent) (operand : Byte) (s : State) : Result :=
  whileRunning s fun s => s.takeCommand 0x07 (State.agentReset page operand)

/-- The AGENT_RESET walk takes the top record of the agent's stack (R82). -/
def State.resetTake (s : State) : State :=
  match s.command.walk with
  | some (.agentReset a) =>
    match (s.port a).stack with
    | r :: rest =>
      ((s.setPort a { s.port a with stack := rest }).handBack
        { r with remaining := none, abandoned := true, returns := satFin r.returns }).countVisit
    | [] => s
  | _ => s

/-- AGENT_RESET_TAKE (R82): no effect while no AGENT_RESET walk has a record to take (log 3). -/
def execAgentResetTake (s : State) : Result := whileRunning s State.resetTake

/-- The end of the AGENT_RESET walk (R83). -/
def State.resetEnd (s : State) : State :=
  match s.command.walk with
  | some (.agentReset a) =>
    if (s.port a).stack.isEmpty then (s.setPort a { s.port a with state := .off }).endWalk else s
  | _ => s

/-- AGENT_RESET_END (R83): no effect before the stack is empty (log 3). -/
def execAgentResetEnd (s : State) : Result := whileRunning s State.resetEnd

/-! ## CLEAR (R18, R85, R192 to R195) -/

/-- An agent port when CLEAR is taken (R85). -/
def Port.cleared (p : Port) : Port :=
  { p with
    stack := [], tickDue := false, withdrawn := []
    state := if p.state = .draining then .off else p.state }

/-- Items 1 to 6 of R192. -/
def State.clearTaken (s : State) : State :=
  let s1 := s.stopLink
  { s1 with
    ports := s1.ports.map Port.cleared
    transmitter := { s1.transmitter with queue := [] }
    internals := Vector.replicate 4 { raisedAgain := false, latest0 := 0, latest1 := 0 }
    pool := { s1.pool with overflow := Vector.replicate 64 0 }
    faults := { flags := 0, crcErrors := 0, linkLost := 0 }
    table := { s1.table with session := if s1.table.session = .opened then .closed else s1.table.session } }

/-- CLEAR (R192): item 7 counts the records that items 1 to 6 freed. -/
def State.clear (page : Agent) (operand : Byte) (s : State) : State :=
  s.clearTaken.startWalk page 0x08 operand (BitVec.ofNat 16 (s.stackedRecords.length + s.forwardRecords.length))
    (.clear startPos)

def execClear (page : Agent) (operand : Byte) (s : State) : Result :=
  whileRunning s fun s => s.takeCommand 0x08 (State.clear page operand)

/-- A step of the CLEAR walk: the record visited is freed without notices (R193). -/
def State.clearVisit (s : State) (m : WalkMove) : State :=
  match s.command.walk with
  | some (.clear p) =>
    match m with
    | .nextQueue => s.setWalk (.clear (s.nextQueue p))
    | .record =>
      match s.nextVisit p with
      | some (q, r) => ((s.removePending r.slot).setWalk (.clear q)).countVisit
      | none => s
  | _ => s

/-- CLEAR_VISIT (R193): no effect while no record is to be visited (log 3). -/
def execClearVisit (m : WalkMove) (s : State) : Result := whileRunning s fun s => s.clearVisit m

/-- The end of the CLEAR walk (R195): arrivals are no longer discarded, the re-arm occasion of every line is taken,
DONE. -/
def State.clearEnd (s : State) : State :=
  match s.command.walk with
  | some (.clear p) => if (s.nextVisit p).isNone then s.endWalk.followUps allLines else s
  | _ => s

/-- CLEAR_END (R195): no effect before the walk has visited the end of queue 0 (log 3). -/
def execClearEnd (s : State) : Result := whileRunning s State.clearEnd

/-! ## LINK_START, LINK_STOP, BAD_COMMAND (R149, R150, R187) -/

/-- LINK_START (R150). -/
def State.linkStart (page : Agent) (operand : Byte) (s : State) : State :=
  if s.link.state = .stopped ∨ s.link.state = .down then
    s.startLink.finish page 0x09 operand .done .noReason ((s.link.session + 1).setWidth 16)
  else s.finish page 0x09 operand .refused .already 0

def execLinkStart (page : Agent) (operand : Byte) (s : State) : Result :=
  whileRunning s fun s => s.takeCommand 0x09 (State.linkStart page operand)

/-- LINK_STOP (R149). -/
def State.linkStop (page : Agent) (operand : Byte) (s : State) : State :=
  s.stopLink.finish page 0x0A operand .done .noReason 0

def execLinkStop (page : Agent) (operand : Byte) (s : State) : Result :=
  whileRunning s fun s => s.takeCommand 0x0A (State.linkStop page operand)

/-- A write of COMMAND by its code and operand (R187, R190, R199). -/
def State.writeCommand (s : State) (page : Agent) (code operand : Byte) : State :=
  s.takeCommand code fun s =>
    match commandOf code with
    | some .editBegin => s.editBegin page operand
    | some .editAbandon => s.editAbandon page operand
    | some .commit => s.commit page operand
    | some .freeze => s.freeze page operand
    | some .post => State.postCommand page operand s
    | some .purge => s.purge page operand
    | some .agentReset => s.agentReset page operand
    | some .clear => s.clear page operand
    | some .linkStart => s.linkStart page operand
    | some .linkStop => s.linkStop page operand
    | none => s.finish page code operand .refused .badCommand 0

/-- BAD_COMMAND (R187): a COMMAND write whose code names no command. A code that names one is that command (log 15). -/
def execBadCommand (page : Agent) (code operand : Byte) (s : State) : Result :=
  whileRunning s fun s => s.writeCommand page code operand

end Sys2Proof.Machine
end

