-- ==== Sys2Proof/Machine/Agents.lean ====
section
/-!
DEFINITION. The agent ports: claim, complete, release, the state requests, threshold and view (Chapter 4), and deadline
expiry (Chapter 5).
-/
namespace Sys2Proof.Machine

/-! ## CLAIM (R62, R63) -/

/-- The remaining time a record is given at a claim: the active deadline entry its snapshot names, none for 0 (R88). -/
def State.deadlineFor (s : State) (r : EventRecord) : Option Word :=
  let d := s.table.activeDeadlines[r.snap.deadlineIndex]
  if d = 0 then none else some d

/-- A claim answered NONE or DEFERRED (R62). -/
def State.answerClaim (s : State) (a : Agent) (answer : Word) (x : LastResult) : State :=
  { s.setLastResult a x with dataOut := answer }

/-- The chosen record leaves its queue and becomes the top of agent a's stack (R63, R88). -/
def State.claimRecord (s : State) (a : Agent) (r : EventRecord) : State :=
  let s1 := s.removePending r.slot
  let p := (s1.port a).withStack ({ r with remaining := s.deadlineFor r } :: (s1.port a).stack)
  { s1.setPort a { p.forget r.pair with view := .top, lastResult := .claimed } with dataOut := r.snap.handle }

/-- An ASLEEP agent becomes ACTIVE at a CLAIM read (R58). -/
def State.wake (s : State) (a : Agent) : State :=
  if (s.port a).state = .asleep then s.setPort a { s.port a with state := .active } else s

/-- A read of CLAIM on agent a's page (R62). A walk command taken before the claim makes it DEFERRED, one taken after
finds it answered: R62, R47 and R189, where the last row of R64's table reads the other way round (log 29). -/
def State.claim (s : State) (a : Agent) : State :=
  if (s.port a).state = .off ∨ (s.port a).state = .draining then s.answerClaim a Config.claimNone .noRecord
  else
    let s1 := s.wake a
    if s1.walking then s1.answerClaim a Config.claimDeferred .deferred
    else
      match s1.selection a with
      | none => s1.answerClaim a Config.claimNone .noRecord
      | some r => s1.claimRecord a r

/-- CLAIM (R62). While RESET_N is low a read returns 0 and has no effect (R184). -/
def execClaim (a : Agent) (s : State) : Result := .next (if s.inReset then { s with dataOut := 0 } else s.claim a)

/-! ## COMPLETE and RELEASE (R67 to R69) -/

/-- A COMPLETE of the top record r frees it (R68). -/
def State.completeTop (s : State) (a : Agent) (r : EventRecord) : State :=
  let freed := ((s.pop a).setLastResult a .done).freeInService r.source
  freed.1.followUps freed.2

/-- A RELEASE of the top record r hands it back to the head of its class queue (R69). -/
def State.releaseTop (s : State) (a : Agent) (r : EventRecord) : State :=
  ((s.pop a).setLastResult a .released).handBack
    ({ r with remaining := none, declined := r.declined ||| agentBit a } : EventRecord).testDeclined

/-- A COMPLETE write naming a pair, checked in the order of R67. `release` is its operation field. -/
def State.endService (s : State) (a : Agent) (x : Pair) (release : Bool) : State :=
  let p := s.port a
  if p.state = .draining then s.setLastResult a .draining
  else
    match p.stack with
    | [] =>
      if x ∈ p.withdrawn then s.setPort a { p.forget x with lastResult := .late } else s.setLastResult a .unknown
    | r :: below =>
      if r.pair = x then (if release then s.releaseTop a r else s.completeTop a r)
      else if below.any (·.pair == x) then s.setLastResult a .notTop
      else if x ∈ p.withdrawn then s.setPort a { p.forget x with lastResult := .late }
      else s.setLastResult a .unknown

/-- COMPLETE (R68). -/
def execComplete (a : Agent) (src : Source) (seq : Byte) (s : State) : Result :=
  whileRunning s fun s => s.endService a ⟨src, seq⟩ false

/-- RELEASE (R69). -/
def execRelease (a : Agent) (src : Source) (seq : Byte) (s : State) : Result :=
  whileRunning s fun s => s.endService a ⟨src, seq⟩ true

/-! ## AGENT_CTRL (R57) -/

/-- An agent's new state and last result. -/
def State.setAgent (s : State) (a : Agent) (st : AgentState) (x : LastResult) : State :=
  s.setPort a { s.port a with state := st, lastResult := x }

/-- The ENABLE column of R57. -/
def State.enableAgent (s : State) (a : Agent) : State :=
  if (s.port a).state = .draining then s.setLastResult a .draining else s.setAgent a .active .taken

/-- The DISABLE column of R57. -/
def State.disableAgent (s : State) (a : Agent) : State :=
  match (s.port a).state with
  | .draining => s.setLastResult a .draining
  | .active => if (s.port a).stack.isEmpty then s.setAgent a .off .taken else s.setLastResult a .stackBusy
  | .off => s.setAgent a .off .taken
  | .asleep => s.setAgent a .off .taken

/-- The SLEEP column of R57. -/
def State.sleepAgent (s : State) (a : Agent) : State :=
  match (s.port a).state with
  | .draining => s.setLastResult a .draining
  | .active => if (s.port a).stack.isEmpty then s.setAgent a .asleep .taken else s.setLastResult a .sleepRefused
  | .off => s.setLastResult a .sleepRefused
  | .asleep => s.setAgent a .asleep .taken

/-- An AGENT_CTRL write by its request code (R57, R197, R200). A code that names no request is refused BAD_REQUEST in
every state, DRAINING included, where R84 says that every AGENT_CTRL write is refused DRAINING (log 30). -/
def State.agentCtrl (s : State) (a : Agent) (code : BitVec 4) : State :=
  if code = 1 then s.enableAgent a
  else if code = 2 then s.disableAgent a
  else if code = 3 then s.sleepAgent a
  else s.setLastResult a .badRequest

/-- ENABLE (R57). -/
def execEnable (a : Agent) (s : State) : Result := whileRunning s fun s => s.enableAgent a

/-- DISABLE (R57). -/
def execDisable (a : Agent) (s : State) : Result := whileRunning s fun s => s.disableAgent a

/-- SLEEP (R57). -/
def execSleep (a : Agent) (s : State) : Result := whileRunning s fun s => s.sleepAgent a

/-- BAD_REQUEST (R57): an AGENT_CTRL write whose code names no request. A code that names one is that request
(log 15). -/
def execBadRequest (a : Agent) (code : BitVec 4) (s : State) : Result := whileRunning s fun s => s.agentCtrl a code

/-! ## THRESHOLD and VIEW_LEVEL (R59, R75) -/

/-- A write of THRESHOLD (R59, R200). -/
def State.writeThreshold (s : State) (a : Agent) (w : Word) : State :=
  s.setPort a { s.port a with threshold := classField w }

/-- THRESHOLD_WRITE (R59). -/
def execThresholdWrite (a : Agent) (w : Word) (s : State) : Result := whileRunning s fun s => s.writeThreshold a w

/-- A write of VIEW_LEVEL (R75, R200). -/
def State.writeView (s : State) (a : Agent) (w : Word) : State := s.setPort a { s.port a with view := viewField w }

/-- VIEW_LEVEL_WRITE (R75). -/
def execViewLevelWrite (a : Agent) (w : Word) (s : State) : Result := whileRunning s fun s => s.writeView a w

/-! ## Deadline expiry (R93 to R97) -/

/-- The cause words of a DEADLINE raising: code 1 RETIRED, 2 OVERDUE in bits 15–12 beside the source, and the seq
(R99, R134, R199). -/
def deadlineCause (code : Nat) (r : EventRecord) : Word × Word :=
  (placed code 12 ||| placed r.source.val 0, r.seq.setWidth 16)

/-- The expiry's pop: the record leaves the stack, its pair joins the withdrawn list, the record beneath becomes the
top and counts from the following tick (R71, R91, R93). -/
def State.expiryPop (s : State) (a : Agent) (r : EventRecord) : State :=
  let p := { s.port a with tickDue := false }
  s.setPort a ((p.withStack p.stack.tail).withdraw r.pair)

/-- Retirement (R94): freed, RETIRED set, and DEADLINE raised among the arrivals the freeing sets off. -/
def State.retire (s : State) (a : Agent) (r : EventRecord) : State :=
  let freed := (s.expiryPop a r).freeInService r.source
  let cause := deadlineCause 1 r
  (freed.1.setFault .retired).followUps (freed.2 ++ [.raise deadlineSource cause.1 cause.2])

/-- A RETURN expiry below the retry limit (R95). -/
def State.returnTop (s : State) (a : Agent) (r : EventRecord) : State :=
  (s.expiryPop a r).handBack { r with remaining := none, returns := satFin r.returns }

/-- The record an ESCALATE expiry below the retry limit hands back (R96). -/
def EventRecord.escalate (r : EventRecord) : EventRecord :=
  let r1 := { r with remaining := none, returns := satFin r.returns, cls := satFin r.cls, escalated := true }
  match r.snap.fallback with
  | some b => ({ r1 with retarget := some b } : EventRecord).testDeclined
  | none => r1

/-- An ESCALATE expiry below the retry limit (R96). -/
def State.escalateTop (s : State) (a : Agent) (r : EventRecord) : State := (s.expiryPop a r).handBack r.escalate

/-- A NOTE expiry (R97): the record stays on top with its timer stopped; the first time it is marked overdue, OVERDUE
is set and DEADLINE is raised. -/
def State.noteTop (s : State) (a : Agent) (r : EventRecord) : State :=
  let p := s.port a
  let s1 := s.setPort a
    { p with stack := { r with remaining := none, overdue := true } :: p.stack.tail, tickDue := false }
  if r.overdue then s1
  else
    let cause := deadlineCause 2 r
    (s1.setFault .overdue).raise deadlineSource cause.1 cause.2

/-- The expiry of agent a's top record r by its policy (R93). -/
def State.expire (s : State) (a : Agent) (r : EventRecord) : State :=
  match r.snap.policy with
  | .note => s.noteTop a r
  | .handBack => if r.snap.retryLimit.val ≤ r.returns.val then s.retire a r else s.returnTop a r
  | .escalate => if r.snap.retryLimit.val ≤ r.returns.val then s.retire a r else s.escalateTop a r

/-- The expiry at port a, if its top record's last tick has come (R89). -/
def State.takeExpiry (s : State) (a : Agent) : State :=
  if (s.port a).tickDue && (s.port a).timerRunning then
    match (s.port a).stack with
    | [] => s
    | r :: _ => s.expire a r
  else s

/-- DEADLINE_EXPIRY (R93): no effect at a port where no expiry is due (log 3). -/
def execDeadlineExpiry (a : Agent) (s : State) : Result := whileRunning s fun s => s.takeExpiry a

end Sys2Proof.Machine
end

