-- ==== Sys2Proof/Machine/Time.lean ====
section
/-!
DEFINITION. The Timebase: ticks and what they reach (R125 to R128), and a CLK cycle.
-/
namespace Sys2Proof.Machine

/-- An event a tick has made due and that is still to be taken (log 4). -/
inductive DueEvent where
  | candidate (line : Line)
  | expiry (agent : Agent)
  | helloInterval
  | ackTimer
  deriving DecidableEq, Repr

/-- The events the last tick made due that are not taken yet. -/
def State.dueEvents (s : State) : List DueEvent :=
  s.dueLines.map .candidate ++
  ((List.finRange 4).filter fun a => (s.port a).tickDue).map .expiry ++
  (if s.link.timer = .expiring then [.helloInterval] else []) ++
  (if s.transmitter.timer = .expiring then [.ackTimer] else [])

/-- A due event is taken as its own step takes it. -/
def takeDue (e : DueEvent) (s : State) : State :=
  match e with
  | .candidate n => s.takeCandidate n
  | .expiry a => s.takeExpiry a
  | .helloInterval => s.helloExpiry
  | .ackTimer => s.ackExpiry

/-- The Timebase at a tick: the prescaler count returns to 0, the divisor is taken from PRESCALE, TICK rises by one and
wraps (R125 to R127). -/
def Timebase.ticked (t : Timebase) : Timebase := { t with count := 0, divisor := t.prescale, tick := t.tick + 1 }

/-- The tick delivered to its receivers (R127): filter candidates, deadline timers, HELLO interval, ACK timer. They
share no state through it. -/
def State.deliverTick (s : State) : State :=
  let s1 := s.tickLines
  { s1 with
    timebase := s1.timebase.ticked
    ports := s1.ports.map Port.ticked
    link := { s1.link with timer := s1.link.timer.ticked }
    transmitter := { s1.transmitter with timer := s1.transmitter.timer.ticked } }

/-- A tick (R125). Events the previous tick made due belong to that tick and are taken first, in a free order
(log 5, 6). -/
def State.doTick (s : State) : State := (s.settle takeDue s.dueEvents).deliverTick

/-- TICK (R125). -/
def execTick (s : State) : Result := whileRunning s State.doTick

/-- One CLK cycle (R125): the prescaler count rises by one; when d + 1 cycles have been counted a tick occurs. This is
the step on an empty queue (log 11). -/
def State.clk (s : State) : State :=
  if s.inReset then s
  else if s.timebase.divisor.toNat ≤ s.timebase.count.toNat then s.doTick
  else { s with timebase := { s.timebase with count := s.timebase.count + 1 } }

/-- A read of TICK_LO: the low half of TICK, and the high half into the tick latch (R128). -/
def State.readTickLo (s : State) : State :=
  { s with
    dataOut := s.timebase.tick.extractLsb' 0 16
    timebase := { s.timebase with latch := s.timebase.tick.extractLsb' 16 16 } }

/-- TICK_LO_READ (R128), from any page. While RESET_N is low a read returns 0 and has no effect (R184). -/
def execTickLoRead (_page : Agent) (s : State) : Result :=
  .next (if s.inReset then { s with dataOut := 0 } else s.readTickLo)

/-- A write of PRESCALE (R126). -/
def State.writePrescale (s : State) (w : Word) : State := { s with timebase := { s.timebase with prescale := w } }

/-- PRESCALE_WRITE (R126). -/
def execPrescaleWrite (w : Word) (s : State) : Result := whileRunning s fun s => s.writePrescale w

end Sys2Proof.Machine
end

