-- ==== Sys2Proof/Machine/Bus.lean ====
section
/-!
DEFINITION. Bus writes of the register window (R179 to R181, R196 to R200), reset (R184).
-/
namespace Sys2Proof.Machine

/-! ## Registers with a write rule of their own -/

/-- A write of hold word k replaces its sixteen flags (R45). -/
def State.writeHold (s : State) (k : Fin 4) (w : Word) : State :=
  { s with dispatcher := { s.dispatcher with hold := s.dispatcher.hold.set k.val w k.isLt } }

/-- HOLD_WRITE (R45). -/
def execHoldWrite (k : Fin 4) (w : Word) (s : State) : Result := whileRunning s fun s => s.writeHold k w

/-- FAULT_WRITE (R130). -/
def execFaultWrite (w : Word) (s : State) : Result := whileRunning s fun s => s.clearFaults w

/-- The Pool's tests of a LINK_RESERVE value v (R13). -/
def State.reserveFits (s : State) (v : Byte) : Bool :=
  decide (v.toNat ≤ Config.linkReserveLimit) && decide (s.heldCount .linkReserve ≤ v.toNat) &&
  decide (s.heldCount .general ≤ Config.sharedSlots - v.toNat)

/-- A write of LINK_RESERVE (R13, R177). -/
def State.writeLinkReserve (s : State) (w : Word) : State :=
  let v := lowByte w
  if s.link.state == .stopped && s.reserveFits v then { s with pool := { s.pool with linkReserve := v } }
  else s.reportControl .reserveRefused 4 (v.setWidth 16)

/-- LINK_RESERVE_WRITE (R177). -/
def execLinkReserveWrite (w : Word) (s : State) : Result := whileRunning s fun s => s.writeLinkReserve w

/-- A write of LINK_DIV (R140). -/
def State.writeLinkDiv (s : State) (w : Word) : State :=
  let v := lowByte w
  if (s.link.state == .stopped || s.link.state == .down) && decide (3 ≤ v.toNat) then
    { s with params := { s.params with div := v } }
  else s

/-- LINK_DIV_WRITE (R140). -/
def execLinkDivWrite (w : Word) (s : State) : Result := whileRunning s fun s => s.writeLinkDiv w

/-- A write of LINK_TIMEOUT (R140). -/
def State.writeLinkTimeout (s : State) (w : Word) : State :=
  if w = 0 then s else { s with params := { s.params with timeout := w } }

/-- LINK_TIMEOUT_WRITE (R140). -/
def execLinkTimeoutWrite (w : Word) (s : State) : Result := whileRunning s fun s => s.writeLinkTimeout w

/-- A write of LINK_RETRIES (R140). -/
def State.writeLinkRetries (s : State) (w : Word) : State :=
  let v := lowByte w
  if 1 ≤ v.toNat ∧ v.toNat ≤ 7 then { s with params := { s.params with retries := v } } else s

/-- LINK_RETRIES_WRITE (R140). -/
def execLinkRetriesWrite (w : Word) (s : State) : Result := whileRunning s fun s => s.writeLinkRetries w

/-- A staging write that is not taken (R110). -/
def State.stageClosed (s : State) (detail : Nat) : State := s.reportControl .stageClosed 1 (BitVec.ofNat 16 detail)

/-- A write of staging entry word k of the selected source (R109, R110). -/
def State.writeStagingEntry (s : State) (k : Fin 4) (w : Word) : State :=
  let sel := s.table.entrySel
  if s.table.session = .opened then
    { s with
      table := { s.table with staging := s.table.staging.set sel.val (s.table.staging[sel].withWord k w) sel.isLt } }
  else s.stageClosed sel.val

/-- STAGING_ENTRY_WRITE (R109). -/
def execStagingEntryWrite (k : Fin 4) (w : Word) (s : State) : Result :=
  whileRunning s fun s => s.writeStagingEntry k w

/-- A write of staging deadline word i (R109, R110). -/
def State.writeStagingDeadline (s : State) (i : Fin 8) (w : Word) : State :=
  if s.table.session = .opened then
    { s with table := { s.table with stagingDeadlines := s.table.stagingDeadlines.set i.val w i.isLt } }
  else s.stageClosed (64 + i.val)

/-- STAGING_DEADLINE_WRITE (R109). -/
def execStagingDeadlineWrite (i : Fin 8) (w : Word) (s : State) : Result :=
  whileRunning s fun s => s.writeStagingDeadline i w

/-! ## Address decode (R196 to R198) -/

/-- A write to offset `off` of agent page a (R197); read-only words and unnamed addresses are not taken (R181). -/
def State.writePage (s : State) (a : Agent) (off : Nat) (w : Word) : State :=
  match off with
  | 0x01 => s.endService a ⟨sourceField w, seqField w⟩ (releaseField w)
  | 0x02 => s.agentCtrl a (field w 0 4)
  | 0x03 => s.writeThreshold a w
  | 0x04 => s.writeView a w
  | 0x18 => s.writeCommand a (commandCode w) (lowByte w)
  | _ => s

/-- ENTRY_SEL, SRC_SEL, QSEL and the POST staging values store their fields (R16, R27, R54, R108, R200). -/
def State.writeSelector (s : State) (addr : Nat) (w : Word) : State :=
  match addr with
  | 0x80 => { s with table := { s.table with entrySel := sourceField w } }
  | 0xA8 => { s with pool := { s.pool with srcSel := sourceField w } }
  | 0xAB => { s with dispatcher := { s.dispatcher with qselClass := classField w, qselPosition := positionField w } }
  | 0xB5 => { s with post := { s.post with data0 := w } }
  | 0xB6 => { s with post := { s.post with data1 := w } }
  | 0xB7 => { s with post := { s.post with len := field w 0 2 } }
  | _ => s

/-- A write to an address of the common area (R198). -/
def State.writeCommon (s : State) (addr : Nat) (w : Word) : State :=
  match addr with
  | 0x81 => s.writeStagingEntry 0 w
  | 0x82 => s.writeStagingEntry 1 w
  | 0x83 => s.writeStagingEntry 2 w
  | 0x84 => s.writeStagingEntry 3 w
  | 0x90 => s.writeStagingDeadline 0 w
  | 0x91 => s.writeStagingDeadline 1 w
  | 0x92 => s.writeStagingDeadline 2 w
  | 0x93 => s.writeStagingDeadline 3 w
  | 0x94 => s.writeStagingDeadline 4 w
  | 0x95 => s.writeStagingDeadline 5 w
  | 0x96 => s.writeStagingDeadline 6 w
  | 0x97 => s.writeStagingDeadline 7 w
  | 0xA0 => s.writeHold 0 w
  | 0xA1 => s.writeHold 1 w
  | 0xA2 => s.writeHold 2 w
  | 0xA3 => s.writeHold 3 w
  | 0xA4 => s.clearFaults w
  | 0xB3 => s.writeLinkReserve w
  | 0xB4 => s.writePrescale w
  | 0xC0 => s.writeLinkDiv w
  | 0xC1 => s.writeLinkTimeout w
  | 0xC2 => s.writeLinkRetries w
  | _ => s.writeSelector addr w

/-- A bus write (R179, R180): four agent pages of 32 words, then the common area (R196). -/
def State.busWrite (s : State) (address : Byte) (w : Word) : State :=
  if h : address.toNat < 0x80 then s.writePage ⟨address.toNat / 32, by omega⟩ (address.toNat % 32) w
  else s.writeCommon address.toNat w

/-- REGISTER_WRITE (R181): a register with no behaviour of its own stores its fields; a read-only word or an unnamed
address takes nothing. At the address of a register that has its own row, the write acts as that row does (log 15). -/
def execRegisterWrite (address : Byte) (w : Word) (s : State) : Result := whileRunning s fun s => s.busWrite address w

/-! ## Reset (R184) -/

/-- POWER_ON_RESET (R184): every block takes its power-on values and a walk ends; the pins, which are inputs, stay, as
do the queue of commands and the model's counter of free values. RESET_N is low from here on. -/
def State.powerOnReset (s : State) : State :=
  { State.reset with
    pending := s.pending
    choices := s.choices
    inReset := true
    lines := s.lines.map fun l => { pin := l.pin, stable := false, candidate := none } }

def execPowerOnReset (s : State) : Result := .next s.powerOnReset

/-- RESET_RELEASE (R184): RESET_N goes high, and the Line Inputs follow the pins (R20). No effect when it is high. -/
def State.releaseReset (s : State) : State :=
  if s.inReset then (List.finRange 32).foldl State.seePin { s with inReset := false } else s

def execResetRelease (s : State) : Result := .next s.releaseReset

end Sys2Proof.Machine
end

