-- ==== Sys2Proof/Machine/Views.lean ====
section
/-!
DEFINITION. What the outside reads: the outputs (R78 to R80), and the word every address of the window reads (R180 to
R183, R197 to R200). These reads change nothing.
-/
namespace Sys2Proof.Machine

/-! ## Outputs -/

/-- NOTIFYn is asserted exactly when agent n is ACTIVE and some record is eligible for it (R78). -/
def State.notify (s : State) (a : Agent) : Bool := (s.port a).state == .active && s.hasWork a

/-- WAKE_CAUSE of page n: agent n is ASLEEP and some record is eligible for it (R80). -/
def State.wakeCause (s : State) (a : Agent) : Bool := (s.port a).state == .asleep && s.hasWork a

/-- WAKE_N is driven low while some agent contributes to it (R79). -/
def State.wakeDriven (s : State) : Bool := (List.finRange 4).any s.wakeCause

/-! ## Agent page (R73, R75 to R77, R197) -/

/-- The record the claim view shows, with its stack level (R75). -/
def Port.viewed (p : Port) : Option (EventRecord × Nat) :=
  match p.view with
  | .top => p.stack.head?.map fun r => (r, p.stack.length - 1)
  | .fixed l => (p.stack.reverse[l.val]?).map fun r => (r, l.val)

def payloadWord0 : Payload → Word
  | .absent => 0
  | .one w => w
  | .two w _ => w

def payloadWord1 : Payload → Word
  | .absent => 0
  | .one _ => 0
  | .two _ w => w

/-- CV_INFO: class 3–0, returns 7–4, payload length 9–8, stack level 13–12. -/
def infoWord (r : EventRecord) (level : Nat) : Word :=
  placed r.cls.val 0 ||| placed r.returns.val 4 ||| placed (payloadLen r.payload) 8 ||| placed level 12

/-- CV_STATE: count 7–0, flags 8–11, retarget agent 13–12, retarget present 14. -/
def stateWord (r : EventRecord) : Word :=
  placed r.count.toNat 0 ||| bitAt r.escalated 8 ||| bitAt r.abandoned 9 ||| bitAt r.overdue 10 |||
    bitAt r.forwarded 11 ||| (match r.retarget with
      | some b => placed b.val 12 ||| bitAt true 14
      | none => 0)

/-- Word i of the claim view; the empty view reads source 0x3F and 0 elsewhere (R77). -/
def Port.claimView (p : Port) (i : Nat) : Word :=
  match p.viewed with
  | none => if i = 0 then 0x003F else 0
  | some (r, level) =>
    match i with
    | 0 => pairWord r.pair
    | 1 => r.snap.handle
    | 2 => infoWord r level
    | 3 => stateWord r
    | 4 => r.stamp.extractLsb' 0 16
    | 5 => r.stamp.extractLsb' 16 16
    | 6 => payloadWord0 r.payload
    | 7 => payloadWord1 r.payload
    | 8 => r.remaining.getD 0
    | 9 => placed r.slot.val 0
    | _ => 0

/-- AGENT_STATUS: state 1–0, timer RUNNING 2, stack depth 6–4, class of the top record 11–8. -/
def Port.statusWord (p : Port) : Word :=
  placed p.state.code 0 ||| bitAt p.timerRunning 2 ||| placed p.stack.length 4 |||
    placed (match p.stack with
      | r :: _ => r.cls.val
      | [] => 0) 8

/-- Withdrawn pair i, oldest first; unused positions show source 0x3F and seq 0 (R72). -/
def Port.withdrawnWord (p : Port) (i : Nat) : Word :=
  match p.withdrawn[i]? with
  | some x => pairWord x
  | none => 0x003F

/-- A read at offset `off` of agent page a. CLAIM shows 0 here: its read is the CLAIM command. -/
def State.readPage (s : State) (a : Agent) (off : Nat) : Word :=
  let p := s.port a
  match off with
  | 0x03 => placed p.threshold.val 0
  | 0x04 => viewWord p.view
  | 0x05 => p.statusWord
  | 0x06 => placed p.lastResult.code 0
  | 0x07 => bitAt (s.wakeCause a) 0
  | 0x12 => placed p.withdrawn.length 0
  | 0x13 => p.withdrawnWord 0
  | 0x14 => p.withdrawnWord 1
  | 0x15 => p.withdrawnWord 2
  | 0x16 => p.withdrawnWord 3
  | 0x1A => s.timebase.tick.extractLsb' 0 16
  | 0x1B => s.timebase.latch
  | _ => if 0x08 ≤ off ∧ off ≤ 0x11 then p.claimView (off - 0x08) else 0

/-! ## Common area (R198) -/

/-- The queue entry view's record (R54). -/
def State.queueEntry (s : State) : Option EventRecord := (s.queue s.dispatcher.qselClass)[s.dispatcher.qselPosition.val]?

/-- Q_PENDING: one bit for each queue that is not empty. -/
def State.pendingMask (s : State) : Word :=
  (List.finRange 16).foldl (fun w c => w ||| bitAt (!(s.queue c).isEmpty) c.val) 0

/-- The group of four bits of internal source i: place of its record, raised-again flag (R132, R198). -/
def State.internalGroup (s : State) (i : Fin 4) : Word :=
  let src := internalSource i
  placed (if s.pendingRecords.any (·.source == src) then 1 else if s.stackedRecords.any (·.source == src) then 2 else 0)
    (4 * i.val) ||| bitAt (s.internal i).raisedAgain (4 * i.val + 2)

def State.queueEntryWord0 (s : State) : Word :=
  match s.queueEntry with
  | some r => pairWord r.pair
  | none => 0x003F

def State.queueEntryWord1 (s : State) : Word :=
  match s.queueEntry with
  | some r =>
    placed r.cls.val 0 ||| bitAt (s.held r.source) 8 ||| bitAt r.escalated 9 ||| bitAt r.retarget.isSome 10 |||
      bitAt r.abandoned 11
  | none => 0

/-- The FREE slots, 128 less the three held counts (R16). -/
def State.freeCount (s : State) : Nat := 128 - s.allocated.length

/-- Link status word k (R157, R178, R198). -/
def State.linkStatus (s : State) (k : Nat) : Word :=
  match k with
  | 0 =>
    placed s.link.state.code 0 ||| placed s.link.downCause.code 2 ||| placed s.link.attempts.val 4 |||
      placed s.link.session.toNat 8
  | 1 => placed s.faults.crcErrors.toNat 0 ||| placed s.faults.linkLost.toNat 8
  | 2 => placed s.link.peerGrant.toNat 0 ||| placed s.credit 8
  | 3 => placed s.transmitter.sendSeq.toNat 0 ||| placed s.transmitter.firstSends.toNat 8
  | 4 =>
    placed s.transmitter.queue.length 0 ||| placed s.transmitter.sent 8 ||| bitAt s.transmitter.timer.isRunning 11 |||
      placed s.transmitter.retry.val 12
  | _ => placed s.receiver.expected.toNat 0 ||| placed s.receiver.gOut.toNat 8

/-- A read in the common area, the words from 0x80 to 0x9F: selected entries and deadline tables. -/
def State.readTable (s : State) (addr : Nat) : Word :=
  let stg := s.table.staging[s.table.entrySel]
  let act := s.table.active[s.table.entrySel]
  match addr with
  | 0x80 => placed s.table.entrySel.val 0
  | 0x81 => stg.word0
  | 0x82 => stg.word1
  | 0x83 => stg.word2
  | 0x84 => stg.word3
  | 0x85 => act.word0
  | 0x86 => act.word1
  | 0x87 => act.word2
  | 0x88 => act.word3
  | 0x89 => placed s.table.session.code 0 ||| bitAt s.table.frozen 8
  | _ =>
    if h : 0x90 ≤ addr ∧ addr ≤ 0x97 then s.table.stagingDeadlines[addr - 0x90]'(by omega)
    else if h : 0x98 ≤ addr ∧ addr ≤ 0x9F then s.table.activeDeadlines[addr - 0x98]'(by omega)
    else 0

/-- A read in the common area, the words from 0xA0. -/
def State.readStatus (s : State) (addr : Nat) : Word :=
  match addr with
  | 0xA0 => s.dispatcher.hold[0]
  | 0xA1 => s.dispatcher.hold[1]
  | 0xA2 => s.dispatcher.hold[2]
  | 0xA3 => s.dispatcher.hold[3]
  | 0xA4 => s.faults.flags.setWidth 16
  | 0xA5 => s.internalGroup 0 ||| s.internalGroup 1 ||| s.internalGroup 2 ||| s.internalGroup 3
  | 0xA6 => s.levelWord 0
  | 0xA7 => s.levelWord 1
  | 0xA8 => placed s.pool.srcSel.val 0
  | 0xA9 => placed (s.outstanding s.pool.srcSel) 0 ||| placed s.pool.overflow[s.pool.srcSel].toNat 8
  | 0xAA => placed s.pool.nextSeq[s.pool.srcSel].toNat 0
  | 0xAB => placed s.dispatcher.qselClass.val 0 ||| placed s.dispatcher.qselPosition.val 8
  | 0xAC => s.pendingMask
  | 0xAD => placed (s.queue s.dispatcher.qselClass).length 0
  | 0xAE => s.queueEntryWord0
  | 0xAF => s.queueEntryWord1
  | 0xB0 => placed s.freeCount 0 ||| placed s.pool.linkReserve.toNat 8
  | 0xB1 =>
    placed (s.heldCount .general) 0 ||| placed (s.heldCount .linkReserve) 8 ||| placed (s.heldCount .internal) 13
  | 0xB3 => placed s.pool.linkReserve.toNat 0
  | 0xB4 => s.timebase.prescale
  | 0xB5 => s.post.data0
  | 0xB6 => s.post.data1
  | 0xB7 => placed s.post.len.toNat 0
  | 0xB8 =>
    placed s.command.status.code 0 ||| placed s.command.issuer.val 2 ||| placed s.command.reason.code 4 |||
      placed s.command.code.toNat 8
  | 0xB9 => placed s.command.operand.toNat 0
  | 0xBA => s.command.result
  | 0xC0 => placed s.params.div.toNat 0
  | 0xC1 => s.params.timeout
  | 0xC2 => placed s.params.retries.toNat 0
  | _ => if 0xC4 ≤ addr ∧ addr ≤ 0xC9 then s.linkStatus (addr - 0xC4) else 0

/-- The word a read of an address shows, without the effect of CLAIM and TICK_LO (R180, R182). Write-only words and
unnamed addresses read 0 (R180, R181); so does every read while RESET_N is low (R184). -/
def State.busRead (s : State) (address : Byte) : Word :=
  if s.inReset then 0
  else if h : address.toNat < 0x80 then s.readPage ⟨address.toNat / 32, by omega⟩ (address.toNat % 32)
  else if address.toNat < 0xA0 then s.readTable address.toNat
  else s.readStatus address.toNat

end Sys2Proof.Machine
end

