-- ==== Sys2Proof/Machine/Dispatch.lean ====
section
/-!
DEFINITION. One arm for each command: its meaning.
-/
namespace Sys2Proof.Machine

/-- The effect of a command on everything but the queue of commands. -/
def exec (i : Instr) (s : State) : Host.Outcome State Fault Refusal :=
  match i with
  | .powerOnReset => Sys2Proof.Machine.execPowerOnReset s
  | .tick => Sys2Proof.Machine.execTick s
  | .pinChange line level => Sys2Proof.Machine.execPinChange line level s
  | .candidateStable line => Sys2Proof.Machine.execCandidateStable line s
  | .claim agent => Sys2Proof.Machine.execClaim agent s
  | .complete agent source seq => Sys2Proof.Machine.execComplete agent source seq s
  | .release agent source seq => Sys2Proof.Machine.execRelease agent source seq s
  | .enable agent => Sys2Proof.Machine.execEnable agent s
  | .disable agent => Sys2Proof.Machine.execDisable agent s
  | .sleep agent => Sys2Proof.Machine.execSleep agent s
  | .badRequest agent code => Sys2Proof.Machine.execBadRequest agent code s
  | .thresholdWrite agent value => Sys2Proof.Machine.execThresholdWrite agent value s
  | .viewLevelWrite agent value => Sys2Proof.Machine.execViewLevelWrite agent value s
  | .tickLoRead page => Sys2Proof.Machine.execTickLoRead page s
  | .holdWrite index value => Sys2Proof.Machine.execHoldWrite index value s
  | .faultWrite value => Sys2Proof.Machine.execFaultWrite value s
  | .prescaleWrite value => Sys2Proof.Machine.execPrescaleWrite value s
  | .linkReserveWrite value => Sys2Proof.Machine.execLinkReserveWrite value s
  | .linkDivWrite value => Sys2Proof.Machine.execLinkDivWrite value s
  | .linkTimeoutWrite value => Sys2Proof.Machine.execLinkTimeoutWrite value s
  | .linkRetriesWrite value => Sys2Proof.Machine.execLinkRetriesWrite value s
  | .stagingEntryWrite index value => Sys2Proof.Machine.execStagingEntryWrite index value s
  | .stagingDeadlineWrite index value => Sys2Proof.Machine.execStagingDeadlineWrite index value s
  | .registerWrite address value => Sys2Proof.Machine.execRegisterWrite address value s
  | .editBegin page operand => Sys2Proof.Machine.execEditBegin page operand s
  | .editAbandon page operand => Sys2Proof.Machine.execEditAbandon page operand s
  | .commit page operand => Sys2Proof.Machine.execCommit page operand s
  | .regroupVisit move => Sys2Proof.Machine.execRegroupVisit move s
  | .regroupEnd => Sys2Proof.Machine.execRegroupEnd s
  | .freeze page operand => Sys2Proof.Machine.execFreeze page operand s
  | .post page operand => Sys2Proof.Machine.execPost page operand s
  | .purge page operand => Sys2Proof.Machine.execPurge page operand s
  | .purgeVisit move => Sys2Proof.Machine.execPurgeVisit move s
  | .purgeEnd => Sys2Proof.Machine.execPurgeEnd s
  | .agentReset page operand => Sys2Proof.Machine.execAgentReset page operand s
  | .agentResetTake => Sys2Proof.Machine.execAgentResetTake s
  | .agentResetEnd => Sys2Proof.Machine.execAgentResetEnd s
  | .clear page operand => Sys2Proof.Machine.execClear page operand s
  | .clearVisit move => Sys2Proof.Machine.execClearVisit move s
  | .clearEnd => Sys2Proof.Machine.execClearEnd s
  | .linkStart page operand => Sys2Proof.Machine.execLinkStart page operand s
  | .linkStop page operand => Sys2Proof.Machine.execLinkStop page operand s
  | .badCommand page code operand => Sys2Proof.Machine.execBadCommand page code operand s
  | .deadlineExpiry agent => Sys2Proof.Machine.execDeadlineExpiry agent s
  | .helloIntervalExpiry => Sys2Proof.Machine.execHelloIntervalExpiry s
  | .ackTimerExpiry => Sys2Proof.Machine.execAckTimerExpiry s
  | .frameDiscarded damage => Sys2Proof.Machine.execFrameDiscarded damage s
  | .helloTaken session grant => Sys2Proof.Machine.execHelloTaken session grant s
  | .helloAckTaken session grant => Sys2Proof.Machine.execHelloAckTaken session grant s
  | .evtTaken seq channel count payload => Sys2Proof.Machine.execEvtTaken seq channel count payload s
  | .ackTaken nextExpected grant => Sys2Proof.Machine.execAckTaken nextExpected grant s
  | .nakTaken nextExpected grant => Sys2Proof.Machine.execNakTaken nextExpected grant s
  | .crdTaken grant => Sys2Proof.Machine.execCrdTaken grant s
  | .helloSend => Sys2Proof.Machine.execHelloSend s
  | .helloSendEnd => Sys2Proof.Machine.execHelloSendEnd s
  | .helloAckSend => Sys2Proof.Machine.execHelloAckSend s
  | .firstSend => Sys2Proof.Machine.execFirstSend s
  | .retransmission => Sys2Proof.Machine.execRetransmission s
  | .evtSendEnd => Sys2Proof.Machine.execEvtSendEnd s
  | .ackSend => Sys2Proof.Machine.execAckSend s
  | .nakSend => Sys2Proof.Machine.execNakSend s
  | .crdSend => Sys2Proof.Machine.execCrdSend s
  | .byteReceived b => Sys2Proof.Machine.execByteReceived b s
  | .resetRelease => Sys2Proof.Machine.execResetRelease s

end Sys2Proof.Machine
end

