-- ==== Sys2Proof/Safety.lean ====
section
/-!
DEFINITION. What counts as a safe state: the properties the spec states of every moment, as predicates of the state.
-/
namespace Sys2Proof.Machine

/-- R7, R10: no slot holds two records, so every slot is free or in exactly one place. -/
def SlotsDistinct (s : State) : Prop := (s.allocated.map (·.slot)).Nodup

/-- R39: a record in queue c has class c. -/
def QueuesByClass (s : State) : Prop := ∀ c : Class, ∀ r ∈ s.queue c, r.cls = c

/-- R65: at most 4 records on a stack, classes strictly increasing from bottom to top. -/
def StacksOrdered (s : State) : Prop :=
  ∀ a : Agent, (s.port a).stack.length ≤ 4 ∧ (s.port a).stack.Pairwise fun upper lower => lower.cls < upper.cls

/-- R71: at most 4 pairs on a withdrawn list, no duplicates. -/
def WithdrawnBounded (s : State) : Prop :=
  ∀ a : Agent, (s.port a).withdrawn.length ≤ 4 ∧ (s.port a).withdrawn.Nodup

/-- R158, R161: at most 16 records in the Forward Queue, at most 4 sent, the sent ones the oldest with consecutive link
sequence numbers up to the send seq; records are sent only while UP; the resend mark names a sent record (R164). -/
def ForwardWindow (s : State) : Prop :=
  let t := s.transmitter
  t.queue.length ≤ 16 ∧ t.sent ≤ 4 ∧
  t.queue.map (·.linkSeq) =
    (List.range t.sent).map (fun i => some (t.sendSeq - BitVec.ofNat 8 t.sent + BitVec.ofNat 8 i)) ++
      List.replicate (t.queue.length - t.sent) none ∧
  (s.link.state ≠ .up → t.sent = 0) ∧
  (∀ m, t.mark = some m → ∃ f ∈ t.queue, f.linkSeq = some m)

/-- R186: the status is BUSY exactly while a walk is in flight. R115, R120: the session is COMMITTING exactly while the
walk is a regroup. R81, R83: an agent is DRAINING exactly while it is under AGENT_RESET. R123: a frozen part's session
is CLOSED. -/
def UnitConsistent (s : State) : Prop :=
  (s.command.status = .busy ↔ s.command.walk.isSome) ∧
  (s.table.session = .committing ↔ ∃ p, s.command.walk = some (.regroup p)) ∧
  (∀ a : Agent, (s.port a).state = .draining ↔ s.command.walk = some (.agentReset a)) ∧
  (s.table.frozen = true → s.table.session = .closed)

/-- R9, R13: LINK_RESERVE at most 16, no partition holds more than its size, each internal source at most one record. -/
def PartitionsBounded (s : State) : Prop :=
  s.pool.linkReserve.toNat ≤ 16 ∧
  s.heldCount .general ≤ 124 - s.pool.linkReserve.toNat ∧
  s.heldCount .linkReserve ≤ s.pool.linkReserve.toNat ∧
  ∀ i : Fin 4, s.outstanding (internalSource i) ≤ 1

/-- R113, R115: every enabled active entry passes validation. -/
def ActiveValid (s : State) : Prop := ∀ src : Source, (s.entry src).invalid src = false

/-- R12: no source has more than 8 allocated records. -/
def OutstandingBounded (s : State) : Prop := ∀ src : Source, s.outstanding src ≤ 8

/-- R58: an ASLEEP agent's stack is empty. -/
def AsleepEmpty (s : State) : Prop := ∀ a : Agent, (s.port a).state = .asleep → (s.port a).stack = []

/-- R6, R89: a remaining time lies in 1–65535 and only a record in service has one. -/
def RemainingInService (s : State) : Prop :=
  (∀ r ∈ s.pendingRecords, r.remaining = none) ∧ (∀ r ∈ s.forwardRecords, r.remaining = none) ∧
  ∀ r ∈ s.stackedRecords, r.remaining ≠ some 0

/-- R77: every record has a count of at least 1. -/
def CountsPositive (s : State) : Prop := ∀ r ∈ s.allocated, r.count ≠ 0

/-- R1, R14: no two allocated records share a pair. -/
def PairsDistinct (s : State) : Prop := (s.allocated.map (·.pair)).Nodup

/-- R71: no withdrawn pair of an agent names a record on its own stack. -/
def WithdrawnOffStack (s : State) : Prop :=
  ∀ a : Agent, ∀ r ∈ (s.port a).stack, r.pair ∉ (s.port a).withdrawn

/-- R31: a raised-again flag is set only while its source's record is in service. -/
def RaisedInService (s : State) : Prop :=
  ∀ i : Fin 4, (s.internal i).raisedAgain = true → ∃ r ∈ s.stackedRecords, r.source = internalSource i

/-- R158: a forwarded record is of a line or posted source, has its forwarded flag set and a LINK route. -/
def ForwardLocal (s : State) : Prop :=
  ∀ r ∈ s.forwardRecords, r.source.val < 44 ∧ r.forwarded = true ∧ ∃ c, r.snap.targets = .link c

/-- R65: the agent on whose stack a record lies is one the record permits. -/
def StackPermitted (s : State) : Prop :=
  ∀ a : Agent, ∀ r ∈ (s.port a).stack, r.mayGoTo.getLsbD a.val = true

end Sys2Proof.Machine
end

