-- ==== Sys2Proof/WellFormed.lean ====
section
/-!
DEFINITION. Which terms of `Instr` spell the event their row names. A term that fails a check is a bus write another
row names; the machine still takes it as the bus write it is (log 15).
-/
namespace Sys2Proof

/-- The codes of the three state requests: 1 ENABLE, 2 DISABLE, 3 SLEEP (R197). -/
def requestNamed (code : BitVec 4) : Bool := code == 1 || code == 2 || code == 3

/-- The codes 0x01 to 0x0A name commands (R199). -/
def commandNamed (code : Byte) : Bool := decide (1 ≤ code.toNat) && decide (code.toNat ≤ 10)

/-- Whether a word address of the window has a write behaviour that another row of the table names (R196 to R198):
COMPLETE, AGENT_CTRL, THRESHOLD, VIEW_LEVEL and COMMAND of an agent page; the staging words, hold words, fault word,
LINK_RESERVE, PRESCALE and the link parameters of the common area. -/
def hasOwnRow (address : Byte) : Bool :=
  if address.toNat < 0x80 then
    decide (address.toNat % 32 ∈ [0x01, 0x02, 0x03, 0x04, 0x18])
  else
    decide (0x81 ≤ address.toNat ∧ address.toNat ≤ 0x84) || decide (0x90 ≤ address.toNat ∧ address.toNat ≤ 0x97) ||
    decide (0xA0 ≤ address.toNat ∧ address.toNat ≤ 0xA4) || decide (address.toNat ∈ [0xB3, 0xB4, 0xC0, 0xC1, 0xC2])

/-- The checks on a command's operands that their types do not make. -/
def Instr.wellFormed : Instr → Bool
  | .badRequest _ code => !requestNamed code
  | .badCommand _ code _ => !commandNamed code
  | .registerWrite address _ => !hasOwnRow address
  | .powerOnReset | .tick | .pinChange _ _ | .candidateStable _ | .claim _ | .complete _ _ _ | .release _ _ _
  | .enable _ | .disable _ | .sleep _ | .thresholdWrite _ _ | .viewLevelWrite _ _ | .tickLoRead _ | .holdWrite _ _
  | .faultWrite _ | .prescaleWrite _ | .linkReserveWrite _ | .linkDivWrite _ | .linkTimeoutWrite _
  | .linkRetriesWrite _ | .stagingEntryWrite _ _ | .stagingDeadlineWrite _ _ | .editBegin _ _ | .editAbandon _ _
  | .commit _ _ | .regroupVisit _ | .regroupEnd | .freeze _ _ | .post _ _ | .purge _ _ | .purgeVisit _ | .purgeEnd
  | .agentReset _ _ | .agentResetTake | .agentResetEnd | .clear _ _ | .clearVisit _ | .clearEnd | .linkStart _ _
  | .linkStop _ _ | .deadlineExpiry _ | .helloIntervalExpiry | .ackTimerExpiry | .frameDiscarded _ | .helloTaken _ _
  | .helloAckTaken _ _ | .evtTaken _ _ _ _ | .ackTaken _ _ | .nakTaken _ _ | .crdTaken _ | .helloSend
  | .helloSendEnd | .helloAckSend | .firstSend | .retransmission | .evtSendEnd | .ackSend | .nakSend | .crdSend
  | .byteReceived _ | .resetRelease => true

end Sys2Proof
end

