-- ==== Sys2Proof/Certificates/Slice0/Obligations.lean ====
section
/-!
DEFINITION. The statements for the provers. Each result is an equation `exec c s = .next t`: it says that the command
completes, what it changes, and by the equation that nothing else changes. `s.inReset = false` says that RESET_N is high.
-/

open Sys2Proof Sys2Proof.Machine

/-! ## The step, the queue, reset -/

/-- The command at the front of the queue is carried out with the queue's rest. -/
def Obligations.StepRunsFrontCommand : Prop :=
  ∀ (s : State) (c : Instr) (rest : List Instr),
    s.pending = c :: rest → step s = exec c { s with pending := rest }

/-- The step on an empty queue is one CLK cycle (the model's choice, log 11), counted as R125 says. -/
def Obligations.EmptyQueueStepIsOneClkCycle : Prop :=
  ∀ s : State, s.pending = [] →
    (s.inReset = true → step s = .next s) ∧
    (s.inReset = false → s.timebase.count.toNat < s.timebase.divisor.toNat →
      step s = .next { s with timebase := { s.timebase with count := s.timebase.count + 1 } }) ∧
    (s.inReset = false → s.timebase.divisor.toNat ≤ s.timebase.count.toNat → step s = exec .tick s)

/-- No command stops the part, and none touches the queue of commands. -/
def Obligations.EveryCommandAnswersNextAndKeepsTheQueue : Prop :=
  ∀ (c : Instr) (s : State), ∃ t, exec c s = .next t ∧ t.pending = s.pending

/-- The values the spec gives for power-on reset (R17, R20, R27, R31, R40, R45, R54, R55, R86, R107, R125, R127, R128,
R131, R138 to R140, R145, R148, R161, R170, R186), with the default entry words of R198. -/
def Obligations.ResetStateHasTheSpecValues : Prop :=
  let s := State.reset
  (s.freeCount = 128 ∧ (∀ p, s.heldCount p = 0) ∧ (∀ src, s.outstanding src = 0) ∧
    (∀ src : Source, s.pool.nextSeq[src] = 0 ∧ s.pool.overflow[src] = 0) ∧ s.pool.linkReserve = 8 ∧ s.pool.srcSel = 0 ∧
    s.partitionSize .general = 116 ∧ s.partitionSize .linkReserve = 8 ∧ s.partitionSize .internal = 4 ∧
    s.freeSlot = some 0 ∧ (∀ src, s.freshSeq src = 0)) ∧
  ((∀ c, s.queue c = []) ∧ (∀ src, s.held src = false) ∧ s.dispatcher.qselClass = 0 ∧ s.dispatcher.qselPosition = 0) ∧
  (∀ n, (s.line n).stable = false ∧ (s.line n).candidate = none) ∧
  (s.post.data0 = 0 ∧ s.post.data1 = 0 ∧ s.post.len = 0) ∧
  (∀ i, s.internal i = { raisedAgain := false, latest0 := 0, latest1 := 0 }) ∧
  (∀ src : Source,
    (s.entry src).word0 = BitVec.ofNat 16 src.val ∧ (s.entry src).word1 = 0 ∧
    (s.entry src).word2 = (if 60 ≤ src.val then 0x0110 else 0x0010) ∧ (s.entry src).word3 = 0x0002 ∧
    s.table.staging[src] = s.entry src) ∧
  (∀ i : Fin 8, s.table.activeDeadlines[i] = 0 ∧ s.table.stagingDeadlines[i] = 0) ∧
  (s.table.session = .closed ∧ s.table.frozen = false ∧ s.table.entrySel = 0) ∧
  (∀ a, (s.port a).state = .off ∧ (s.port a).threshold = 0 ∧ (s.port a).stack = [] ∧
    (s.port a).timerRunning = false ∧ (s.port a).view = .top ∧ (s.port a).withdrawn = [] ∧
    (s.port a).lastResult = .idle) ∧
  (s.timebase.prescale = 999 ∧ s.timebase.divisor = 999 ∧ s.timebase.count = 0 ∧ s.timebase.tick = 0 ∧
    s.timebase.latch = 0) ∧
  (s.faults.flags = 0 ∧ s.faults.crcErrors = 0 ∧ s.faults.linkLost = 0) ∧
  (s.params.div = 7 ∧ s.params.timeout = 200 ∧ s.params.retries = 3) ∧
  (s.link.state = .stopped ∧ s.link.session = 0 ∧ s.link.attempts = 0 ∧ s.link.timer = .stopped ∧
    s.link.peerGrant = 0 ∧ s.link.downCause = .never) ∧
  (s.transmitter.queue = [] ∧ s.transmitter.sendSeq = 0 ∧ s.transmitter.firstSends = 0 ∧ s.transmitter.retry = 0 ∧
    s.transmitter.timer = .stopped ∧ s.transmitter.mark = none) ∧
  (s.receiver.logic = .hunt ∧ s.receiver.expected = 0 ∧ s.receiver.gOut = 0 ∧ s.receiver.nakFlag = false ∧
    s.receiver.carried = 0) ∧
  (s.command.status = .idle ∧ s.command.code = 0 ∧ s.command.operand = 0 ∧ s.command.issuer = 0 ∧
    s.command.reason = .noReason ∧ s.command.result = 0 ∧ s.command.walk = none)

/-- POWER_ON_RESET puts every block at its power-on value (R184); the pins, which are inputs, and the model's own queue
and counter of free values stay (log 1, 6). While RESET_N is low every read returns 0.
RESET_RELEASE after a power-on reset: every block holds its power-on value (R184), and the Line Inputs have followed
the pins: the default filter length is 0, so a high pin is a stable high level, and its arrival is IGNORED (R20, R21).
RESET_RELEASE completes in every state; in a state in reset whose line entries are the disabled ones without filter that
power-on leaves and whose candidates are absent (R20, R107), its whole effect is given.
While RESET_N is low no access is taken: a read returns 0, and nothing but the pins and RESET_N acts (R184;
log 23). -/
def Obligations.ResetCommands : Prop :=
  (∀ s : State,
    exec .powerOnReset s = .next
      { State.reset with
        pending := s.pending, choices := s.choices, inReset := true
        lines := s.lines.map fun l => { pin := l.pin, stable := false, candidate := none } } ∧
    (s.inReset = true → ∀ address, s.busRead address = 0)) ∧
  (∀ s : State,
    (∀ t, exec .powerOnReset s = .next t →
      exec .resetRelease t = .next
        { State.reset with
          pending := s.pending, choices := s.choices
          lines := s.lines.map fun l => { pin := l.pin, stable := l.pin, candidate := none } }) ∧
    (s.inReset = false → exec .resetRelease s = .next s) ∧
    (s.inReset = true → (∀ n, (s.line n).candidate = none) →
      (∀ n : Line, (s.entry (lineSource n)).enable = false ∧ (s.entry (lineSource n)).filter = 0) →
      exec .resetRelease s = .next
        { s with
          inReset := false
          lines := s.lines.map fun l => { pin := l.pin, stable := l.pin, candidate := none } }) ∧
    ∃ t, exec .resetRelease s = .next t ∧ t.inReset = false ∧ t.pending = s.pending ∧ t.command = s.command ∧
      t.table = s.table ∧ t.timebase = s.timebase ∧ t.ports = s.ports ∧ t.link = s.link ∧ t.pair = s.pair ∧
      t.receiver = s.receiver) ∧
  (∀ (s : State) (c : Instr), s.inReset = true →
    match c with
    | .powerOnReset | .resetRelease => True
    | .pinChange n level => exec c s = .next (s.setLine n { s.line n with pin := level })
    | .claim _ | .tickLoRead _ => exec c s = .next { s with dataOut := 0 }
    | _ => exec c s = .next s)

/-! ## Timebase and Line Inputs -/

/-- t is what one tick makes of s, no event of an earlier tick being still to be taken (R125, R126, R127, R21, R89, R151,
R165). An event whose count ends here is marked due (log 4). -/
abbrev Sys2Proof.Machine.TickedFrom (s t : State) : Prop :=
  t = { s with
    timebase :=
      { s.timebase with count := 0, divisor := s.timebase.prescale, tick := s.timebase.tick + 1 }
    lines := t.lines, ports := t.ports
    link := { s.link with timer := t.link.timer }
    transmitter := { s.transmitter with timer := t.transmitter.timer } } ∧
  (∀ n, (s.line n).candidate = none → t.line n = s.line n) ∧
  (∀ n c, (s.line n).candidate = some c →
    t.line n =
      if (s.line n).pin = c.level then
        { s.line n with
          candidate := some
            { c with count := satFin c.count, due := decide (s.filterLength n ≤ (satFin c.count).val) } }
      else s.line n) ∧
  (∀ a, (s.port a).timerRunning = false → t.port a = s.port a) ∧
  (∀ a r rest n, (s.port a).state ≠ .draining → (s.port a).stack = r :: rest → r.remaining = some n →
    t.port a =
      if n.toNat ≤ 1 then { s.port a with tickDue := true }
      else { s.port a with stack := { r with remaining := some (n - 1) } :: rest }) ∧
  t.link.timer = s.link.timer.ticked ∧ t.transmitter.timer = s.transmitter.timer.ticked ∧
  LinkTimer.stopped.ticked = .stopped ∧
  (∀ n : Word, (LinkTimer.running n).ticked = if n.toNat ≤ 1 then .expiring else .running (n - 1))

/-- The commands, carried out one after another from s, lead to t, whatever the model's counter of free values stands at
before each (log 6). -/
def Sys2Proof.Machine.CarriedOut : List Instr → State → State → Prop
  | [], s, t => t = s
  | c :: rest, s, t => ∃ n u, exec c { s with choices := n } = .next u ∧ CarriedOut rest u t

/-- The lines with a candidate that the last tick made due and that is still to be taken (log 4). -/
abbrev Sys2Proof.Machine.linesWithDueCandidate (s : State) : List Line :=
  (List.finRange 32).filter fun n => (s.line n).candidate.any (·.due)

/-- TICK (R125, R126, R127, R21, R89, R151, R165). With no event of the last tick still to be taken, it is one tick.
Otherwise those events belong to the last tick and are taken first (log 5), each by its own command, in a free order
(log 6); the tick follows. -/
def Obligations.TickResult : Prop :=
  (∀ s : State, s.inReset = false → s.dueEvents = [] → ∃ t, exec .tick s = .next t ∧ TickedFrom s t) ∧
  (∀ s : State, s.inReset = false →
    let due : List Instr :=
      (linesWithDueCandidate s).map .candidateStable ++
      ((List.finRange 4).filter fun a => (s.port a).tickDue).map .deadlineExpiry ++
      (if s.link.timer = .expiring then [.helloIntervalExpiry] else []) ++
      (if s.transmitter.timer = .expiring then [.ackTimerExpiry] else [])
    ∃ order : List Instr, order.Perm due ∧
      ∃ u, CarriedOut order s u ∧ ∃ t, exec .tick s = .next t ∧ TickedFrom u t)

/-- TICK_LO_READ and TICK_HI (R128): the low half is returned, the high half goes into the latch, and TICK_HI on any
page reads the latch.
PRESCALE_WRITE (R126): PRESCALE changes and is read back; the running period keeps its divisor and its count. -/
def Obligations.TimebaseAccesses : Prop :=
  (∀ (s : State) (page : Agent), s.inReset = false →
    exec (.tickLoRead page) s = .next
      { s with
        dataOut := s.timebase.tick.extractLsb' 0 16
        timebase := { s.timebase with latch := s.timebase.tick.extractLsb' 16 16 } } ∧
    s.busRead (BitVec.ofNat 8 (32 * page.val + 0x1B)) = s.timebase.latch) ∧
  (∀ (s : State) (w : Word), s.inReset = false →
    ∃ t, exec (.prescaleWrite w) s = .next t ∧ t = { s with timebase := { s.timebase with prescale := w } } ∧
      t.busRead 0xB4 = w)

/-- PIN_CHANGE (R21): cancels a candidate, forms one, or changes the stable level at once with filter length 0. A
candidate that the last tick made due became the stable level at that tick, so CANDIDATE_STABLE comes first (`due` is the
model's mark of it, log 4).
CANDIDATE_STABLE (R21): a candidate that is due becomes the stable level, which is offered to the trigger logic. While a
second candidate of the same group is due, the capture word of its arrival shows that line's old level: the model's
choice (log 28). -/
def Obligations.LineCommands : Prop :=
  (∀ (s : State) (n : Line) (level : Bool), s.inReset = false →
    ((s.line n).pin = level → exec (.pinChange n level) s = .next s) ∧
    ((s.line n).pin ≠ level → (s.line n).stable = level → (∀ c, (s.line n).candidate = some c → c.due = false) →
      exec (.pinChange n level) s = .next (s.setLine n { pin := level, stable := level, candidate := none })) ∧
    ((s.line n).pin ≠ level → (s.line n).stable ≠ level → (s.line n).candidate = none → s.filterLength n ≠ 0 →
      exec (.pinChange n level) s = .next
        (s.setLine n
          { pin := level, stable := (s.line n).stable
            candidate := some { level := level, count := 0, due := false } })) ∧
    ((s.line n).pin ≠ level → (s.line n).stable ≠ level → (s.line n).candidate = none → s.filterLength n = 0 →
      let s1 := s.setLine n { pin := level, stable := level, candidate := none }
      exec (.pinChange n level) s = .next (if s1.qualifies n level then (s1.resolve (s1.lineArrival n)).1 else s1)) ∧
    (∀ c, (s.line n).candidate = some c → c.due = true → (s.line n).pin ≠ level →
      ∃ s1, exec (.candidateStable n) s = .next s1 ∧ (s1.line n).candidate = none ∧
        exec (.pinChange n level) s = exec (.pinChange n level) s1)) ∧
  (∀ (s : State) (n : Line) (c : Candidate), s.inReset = false → (s.line n).candidate = some c → c.due = true →
    let s1 := s.setLine n { s.line n with stable := c.level, candidate := none }
    exec (.candidateStable n) s = .next (if s1.qualifies n c.level then (s1.resolve (s1.lineArrival n)).1 else s1))

/-- Which stable changes make an arrival, by the trigger code (R22, R23, R106, R198), and the arrival's data: with
capture on, the stable levels of the line's group of sixteen (R25). -/
def Obligations.TriggerAndCaptureRule : Prop :=
  ∀ (s : State) (n : Line) (level : Bool),
    s.qualifies n level =
      (match (s.entry (lineSource n)).trigger.toNat with
       | 0 => level
       | 1 => !level
       | 2 => true
       | 3 => level
       | 4 => !level
       | _ => false) ∧
    ((s.entry (lineSource n)).capture = false → s.lineArrival n = ⟨lineSource n, .absent, 1⟩) ∧
    ((s.entry (lineSource n)).capture = true →
      ∃ w : Word, s.lineArrival n = ⟨lineSource n, .one w, 1⟩ ∧
        ∀ m : Line, m.val / 16 = n.val / 16 → w.getLsbD (m.val % 16) = (s.line m).stable)

/-! ## Arrival resolution -/

/-- Steps 1 to 3 (R33): a disabled source ignores, a source under PURGE or a CLEAR walk discards; nothing changes.
Step 4 (R34): under COUNT or LATEST an arrival merges into the newest pending record of its source, and no slot,
sequence number or position changes. These arrivals are at sources 0 to 59; an internal source has its own table (R29). -/
def Obligations.ArrivalNotConsideredOrMerged : Prop :=
  (∀ (s : State) (a : Arrival),
    ((s.entry a.source).enable = false → s.resolve a = (s, .ignored)) ∧
    ((s.entry a.source).enable = true → s.underPurge a.source = true ∨ s.clearing = true →
      s.resolve a = (s, .discarded))) ∧
  (∀ (s : State) (a : Arrival) (r : EventRecord), a.source.val < 60 →
    (s.entry a.source).enable = true → s.underPurge a.source = false → s.clearing = false →
    s.newestPending a.source = some r →
    (r ∈ s.pendingRecords ∧ r.source = a.source ∧
      ∀ x ∈ s.pendingRecords, x.source = a.source → x.serial ≤ r.serial) ∧
    ((s.entry a.source).coalesce = 1 →
      s.resolve a = (s.changePending r.slot fun x => { x with count := satByte x.count }, .merged)) ∧
    ((s.entry a.source).coalesce = 2 →
      s.resolve a =
        (s.changePending r.slot fun x =>
          { x with count := satByte x.count, stamp := s.timebase.tick, payload := a.payload }, .merged)))

/-- Step 5 (R35, R1, R10, R14), agent route: the record takes the lowest FREE slot and the first sequence number from
the counter on that no record of the source carries, and stands at the tail of its class queue.
Step 5 for a LINK route (R35, R139, R159): off DOWN the record is queued at the tail of the Forward Queue, forwarded
flag set; in DOWN it is diverted to the fallback or lost and counted. -/
def Obligations.ArrivalPlaced : Prop :=
  (∀ (s : State) (a : Arrival) (k : Slot) (set : BitVec 4),
    (s.entry a.source).enable = true → s.underPurge a.source = false → s.clearing = false →
    ((s.entry a.source).coalesceMode = .never ∨ s.newestPending a.source = none) →
    (s.entry a.source).route = .agents set →
    s.outstanding a.source < s.maxOutstanding a.source →
    s.heldCount (partitionOf a.source) < s.partitionSize (partitionOf a.source) →
    (∀ r ∈ s.allocated, r.slot ≠ k) → (∀ j : Slot, j < k → ∃ r ∈ s.allocated, r.slot = j) →
    ∀ j : Nat, j < 256 →
    (∀ r ∈ s.allocated, ¬(r.source = a.source ∧ r.seq = s.pool.nextSeq[a.source] + BitVec.ofNat 8 j)) →
    (∀ i < j, ∃ r ∈ s.allocated, r.source = a.source ∧ r.seq = s.pool.nextSeq[a.source] + BitVec.ofNat 8 i) →
    let seq := s.pool.nextSeq[a.source] + BitVec.ofNat 8 j
    let e := s.entry a.source
    let r : EventRecord :=
      { source := a.source, seq := seq, cls := e.cls.toFin, stamp := s.timebase.tick
        count := if a.count = 0 then 1 else a.count
        payload := a.payload, returns := 0, escalated := false, abandoned := false, overdue := false
        forwarded := false
        snap :=
          { handle := e.handle, targets := .agents set, fallback := e.fallback
            deadlineIndex := e.deadlineIndex.toFin, policy := e.expiryPolicy, retryLimit := e.retryLimit.toFin }
        retarget := none, declined := 0, remaining := none, slot := k, serial := s.pool.nextSerial }
    s.resolve a =
      ({ s with
          pool :=
            { s.pool with
              nextSeq := s.pool.nextSeq.set a.source.val (seq + 1) a.source.isLt
              nextSerial := s.pool.nextSerial + 1 }
          dispatcher :=
            { s.dispatcher with
              queues := s.dispatcher.queues.set r.cls.val (s.queue r.cls ++ [r]) r.cls.isLt } }, .allocated)) ∧
  (∀ (s : State) (a : Arrival) (channel : BitVec 4) (k : Slot),
    (s.entry a.source).enable = true → s.underPurge a.source = false → s.clearing = false →
    ((s.entry a.source).coalesceMode = .never ∨ s.newestPending a.source = none) →
    (s.entry a.source).route = .link channel →
    s.outstanding a.source < s.maxOutstanding a.source →
    s.heldCount (partitionOf a.source) < s.partitionSize (partitionOf a.source) →
    (∀ r ∈ s.allocated, r.slot ≠ k) → (∀ j : Slot, j < k → ∃ r ∈ s.allocated, r.slot = j) →
    (∀ j : Nat, j < 256 →
      (∀ r ∈ s.allocated, ¬(r.source = a.source ∧ r.seq = s.pool.nextSeq[a.source] + BitVec.ofNat 8 j)) →
      (∀ i < j, ∃ r ∈ s.allocated, r.source = a.source ∧ r.seq = s.pool.nextSeq[a.source] + BitVec.ofNat 8 i) →
      let seq := s.pool.nextSeq[a.source] + BitVec.ofNat 8 j
      let e := s.entry a.source
      let r : EventRecord :=
        { source := a.source, seq := seq, cls := e.cls.toFin, stamp := s.timebase.tick
          count := if a.count = 0 then 1 else a.count
          payload := a.payload, returns := 0, escalated := false, abandoned := false, overdue := false
          forwarded := true
          snap :=
            { handle := e.handle, targets := .link channel, fallback := e.fallback
              deadlineIndex := e.deadlineIndex.toFin, policy := e.expiryPolicy, retryLimit := e.retryLimit.toFin }
          retarget := none, declined := 0, remaining := none, slot := k, serial := s.pool.nextSerial }
      let pool : Pool :=
        { s.pool with
          nextSeq := s.pool.nextSeq.set a.source.val (seq + 1) a.source.isLt
          nextSerial := s.pool.nextSerial + 1 }
      (s.link.state ≠ .down → s.transmitter.queue.length < 16 →
        s.resolve a =
          ({ s with
              pool := pool
              transmitter := { s.transmitter with queue := s.transmitter.queue ++ [⟨r, none⟩] } }, .allocated)) ∧
      (s.link.state = .down → ∀ b, e.fallback = some b →
        s.resolve a =
          ({ s with
              pool := pool
              dispatcher :=
                { s.dispatcher with
                  queues :=
                    s.dispatcher.queues.set r.cls.val (s.queue r.cls ++ [{ r with retarget := some b }]) r.cls.isLt } },
            .diverted))) ∧
    (s.link.state = .down → (s.entry a.source).fallback = none →
      s.resolve a = ({ s with faults := { s.faults with linkLost := satByte s.faults.linkLost } }, .lost)))

/-- Step 6 (R36, R15, R133): when a test of step 5 fails, the overflow counter rises, OVERFLOW is set, and source 60 is
raised with the source and the counter. An internal source, 60 to 63, never overflows (R15, R29). -/
def Obligations.ArrivalOverflows : Prop :=
  ∀ (s : State) (a : Arrival), a.source.val < 60 →
    (s.entry a.source).enable = true → s.underPurge a.source = false → s.clearing = false →
    ((s.entry a.source).coalesceMode = .never ∨ s.newestPending a.source = none) →
    (s.maxOutstanding a.source ≤ s.outstanding a.source ∨
      s.partitionSize (partitionOf a.source) ≤ s.heldCount (partitionOf a.source) ∨
      (s.link.state ≠ .down ∧ 16 ≤ s.transmitter.queue.length ∧
        ∃ channel, (s.entry a.source).route = .link channel)) →
    let n := satByte s.pool.overflow[a.source]
    let s1 : State :=
      { s with pool := { s.pool with overflow := s.pool.overflow.set a.source.val n a.source.isLt } }
    s.resolve a =
      ((s1.setFault .overflow).raise 0 (BitVec.ofNat 16 a.source.val) (n.setWidth 16), .overflow)

/-- The table of R29: what a raising of internal source 60 + i does. -/
def Obligations.InternalRaisingTable : Prop :=
  ∀ (s : State) (i : Fin 4) (w0 w1 : Word),
    ((s.entry (internalSource i)).enable = false → s.raise i w0 w1 = s) ∧
    ((s.entry (internalSource i)).enable = true →
      (s.underPurge (internalSource i) = true ∨ s.clearing = true → s.raise i w0 w1 = s) ∧
      (s.underPurge (internalSource i) = false → s.clearing = false →
        (∀ r, s.newestPending (internalSource i) = some r →
          s.raise i w0 w1 =
            s.changePending r.slot fun x => { x with count := satByte x.count, payload := .two w0 w1 }) ∧
        (∀ k, s.outstanding (internalSource i) = 0 → s.freeSlot = some k →
          s.raise i w0 w1 = s.allocatePending ⟨internalSource i, .two w0 w1, 1⟩ k none) ∧
        (s.newestPending (internalSource i) = none → s.outstanding (internalSource i) ≠ 0 →
          s.raise i w0 w1 = s.setInternal i { raisedAgain := true, latest0 := w0, latest1 := w1 })))

/-! ## Dispatch and the agent ports -/

/-- The seven conditions of R60, for a pending record.
The scan (R47, R48): the record chosen is eligible, no eligible record has a higher class, and none ahead of it in
its queue is eligible; while some pending record is eligible, a record is chosen (R47, R49). -/
def Obligations.EligibilityAndSelection : Prop :=
  (∀ (s : State) (a : Agent) (r : EventRecord),
    s.eligible a r = true ↔
      (s.dispatcher.hold[r.source.val / 16]'(by omega)).getLsbD (r.source.val % 16) = false ∧
      (match r.retarget, r.snap.targets with
       | some b, _ => a = b
       | none, .agents set => set.getLsbD a.val = true
       | none, .link _ => False) ∧
      r.declined.getLsbD a.val = false ∧
      (s.port a).threshold < r.cls ∧
      (s.port a).stack.length < 4 ∧
      ((s.port a).stack = [] ∨ ∃ top below, (s.port a).stack = top :: below ∧ top.cls < r.cls)) ∧
  (∀ (s : State) (a : Agent) (r : EventRecord), QueuesByClass s → s.selection a = some r →
    r ∈ s.pendingRecords ∧ s.eligible a r = true ∧
    (∀ x ∈ s.pendingRecords, s.eligible a x = true → x.cls ≤ r.cls) ∧
    ∃ front back, s.queue r.cls = front ++ r :: back ∧ ∀ x ∈ front, s.eligible a x = false) ∧
  (∀ (s : State) (a : Agent), (∃ r ∈ s.pendingRecords, s.eligible a r = true) → ∃ r, s.selection a = some r)

/-- A port whose stack becomes `stack`, by a push or a pop of the top. With an expiry of the last tick still to be taken
(`tickDue`), this is R64's and R91's order in which the push or pop comes first: the tick then reaches the new top, which
counts down by one, or is due itself with 1 left (log 4). -/
abbrev Sys2Proof.Machine.portWithTop (p : Port) (stack : List EventRecord) : Port :=
  if p.tickDue = false then { p with stack := stack }
  else
    match stack with
    | [] => { p with stack := [], tickDue := false }
    | r :: rest =>
      match r.remaining with
      | none => { p with stack := r :: rest, tickDue := false }
      | some n =>
        if n.toNat ≤ 1 then { p with stack := r :: rest, tickDue := true }
        else { p with stack := { r with remaining := some (n - 1) } :: rest, tickDue := false }

/-- CLAIM (R62, R63, R88): answered NONE, DEFERRED, or with the handle of the record pushed on the stack. That a claim is
DEFERRED while a walk is in flight follows R62, R47 and R189 against the last row of R64's table: the model's choice
(log 29). -/
def Obligations.ClaimResult : Prop :=
  ∀ (s : State) (a : Agent), s.inReset = false →
    let awake : Port := { s.port a with state := .active }
    ((s.port a).state = .off ∨ (s.port a).state = .draining →
      exec (.claim a) s = .next
        { s.setPort a { s.port a with lastResult := .noRecord } with dataOut := 0xFFFF }) ∧
    ((s.port a).state = .active ∨ (s.port a).state = .asleep →
      (s.walking = true →
        exec (.claim a) s = .next { s.setPort a { awake with lastResult := .deferred } with dataOut := 0xFFFE }) ∧
      (s.walking = false → (∀ r ∈ s.pendingRecords, s.eligible a r = false) →
        exec (.claim a) s = .next { s.setPort a { awake with lastResult := .noRecord } with dataOut := 0xFFFF }) ∧
      (s.walking = false → ∀ r, s.selection a = some r →
        let entry := s.table.activeDeadlines[r.snap.deadlineIndex]
        exec (.claim a) s = .next
          { (s.removePending r.slot).setPort a
              { portWithTop awake
                  ({ r with remaining := if entry = 0 then none else some entry } :: (s.port a).stack) with
                view := .top, lastResult := .claimed
                withdrawn := (s.port a).withdrawn.filter (· != ⟨r.source, r.seq⟩) } with
            dataOut := r.snap.handle }))

/-- The checks of R67 in their order, for COMPLETE and RELEASE alike: what each answers, and that a refused write changes
nothing but the last result, a LATE one also the withdrawn list. -/
def Obligations.CompleteCheckOrder : Prop :=
  ∀ (s : State) (a : Agent) (src : Source) (seq : Byte) (c : Instr), s.inReset = false →
    c = .complete a src seq ∨ c = .release a src seq →
    let p := s.port a
    let x : Pair := ⟨src, seq⟩
    let answer (result : LastResult) := exec c s = .next (s.setPort a { p with lastResult := result })
    (p.state = .draining → answer .draining) ∧
    (p.state ≠ .draining → (∃ r below, p.stack = r :: below ∧ r.pair = x) →
      ∃ t, exec c s = .next t ∧ (t.port a).lastResult = if c = .complete a src seq then .done else .released) ∧
    (p.state ≠ .draining → (∃ r below, p.stack = r :: below ∧ r.pair ≠ x ∧ ∃ y ∈ below, y.pair = x) → answer .notTop) ∧
    (p.state ≠ .draining → (∀ r ∈ p.stack, r.pair ≠ x) → x ∈ p.withdrawn →
      exec c s = .next
        (s.setPort a { p with withdrawn := p.withdrawn.filter (· != x), lastResult := .late })) ∧
    (p.state ≠ .draining → (∀ r ∈ p.stack, r.pair ≠ x) → x ∉ p.withdrawn → answer .unknown)

/-- COMPLETE of the top record (R68, R91, R11, R24, R30, R171): the record leaves its place; a line is re-armed, an internal
source whose raised-again flag is set is raised, the grant grows for a link channel source. -/
def Obligations.CompleteTopResult : Prop :=
  ∀ (s : State) (a : Agent) (r : EventRecord) (below : List EventRecord), s.inReset = false →
    (s.port a).state ≠ .draining → (s.port a).stack = r :: below →
    let s1 := s.setPort a { portWithTop (s.port a) below with lastResult := .done }
    let done (t : State) := exec (.complete a r.source r.seq) s = .next t
    (32 ≤ r.source.val → r.source.val < 44 → done s1) ∧
    (44 ≤ r.source.val → r.source.val < 60 → done s1.growGrant) ∧
    (∀ i, internalOf r.source = some i →
      (if (s.internal i).raisedAgain then
        done ((s1.setInternal i { s.internal i with raisedAgain := false }).raise i (s.internal i).latest0
          (s.internal i).latest1)
      else done s1)) ∧
    (∀ n, lineOf r.source = some n →
      (if s1.outstanding r.source = 0 ∧ s.underPurge r.source = false ∧ s1.lineActive n = true then
        done (s1.resolve (s1.lineArrival n)).1
      else done s1))

/-- RELEASE of the top record (R69, R91, R42, R61, R31): it enters the head of its class queue with the agent declined, an
internal record whose raised-again flag is set taking the merge of the latest cause. -/
def Obligations.ReleaseTopResult : Prop :=
  ∀ (s : State) (a : Agent) (r : EventRecord) (below : List EventRecord), s.inReset = false →
    (s.port a).state ≠ .draining → (s.port a).stack = r :: below →
    let s1 := s.setPort a { portWithTop (s.port a) below with lastResult := .released }
    let declined := r.declined ||| (1 : BitVec 4) <<< a.val
    let back : EventRecord :=
      { r with
        remaining := none
        declined := if declined &&& r.mayGoTo = r.mayGoTo then 0 else declined }
    let done (t : State) := exec (.release a r.source r.seq) s = .next t
    (r.source.val < 60 → done (s1.insertHead back)) ∧
    (∀ i, internalOf r.source = some i →
      (if (s.internal i).raisedAgain then
        done ((s1.setInternal i { s.internal i with raisedAgain := false }).insertHead
          { back with count := satByte r.count, payload := .two (s.internal i).latest0 (s.internal i).latest1 })
      else done (s1.insertHead back)))

/-- ENABLE, DISABLE and SLEEP, and an AGENT_CTRL write that names none of them: the table of R57. That such a write to a
DRAINING agent answers BAD_REQUEST follows R57 and R200 against R84: the model's choice (log 30). -/
def Obligations.AgentControlTable : Prop :=
  ∀ (s : State) (a : Agent), s.inReset = false →
    let p := s.port a
    let becomes (st : AgentState) (result : LastResult) : Host.Outcome State Fault Refusal :=
      .next (s.setPort a { p with state := st, lastResult := result })
    exec (.enable a) s = (if p.state = .draining then becomes .draining .draining else becomes .active .taken) ∧
    exec (.disable a) s =
      (match p.state with
       | .draining => becomes .draining .draining
       | .active => if p.stack = [] then becomes .off .taken else becomes .active .stackBusy
       | .off => becomes .off .taken
       | .asleep => becomes .off .taken) ∧
    exec (.sleep a) s =
      (match p.state with
       | .draining => becomes .draining .draining
       | .active => if p.stack = [] then becomes .asleep .taken else becomes .active .sleepRefused
       | .off => becomes .off .sleepRefused
       | .asleep => becomes .asleep .taken) ∧
    (∀ code : BitVec 4, code ≠ 1 → code ≠ 2 → code ≠ 3 → exec (.badRequest a code) s = becomes p.state .badRequest)

/-- THRESHOLD_WRITE and VIEW_LEVEL_WRITE (R59, R75, R200), in any state, and what the two registers read.
The agent's status words (R73, R87, R197) and the withdrawn view (R72, R197): state, timer, depth and top class, the last
result's code, the number of withdrawn pairs, and the pairs oldest first, an unused place reading source 0x3F. -/
def Obligations.ThresholdAndViewWrites : Prop :=
  (∀ (s : State) (a : Agent) (w : Word), s.inReset = false →
    exec (.thresholdWrite a w) s = .next (s.setPort a { s.port a with threshold := (w.extractLsb' 0 4).toFin }) ∧
    exec (.viewLevelWrite a w) s = .next
      (s.setPort a
        { s.port a with view := if w.getLsbD 2 then .top else .fixed (w.extractLsb' 0 2).toFin }) ∧
    s.busRead (BitVec.ofNat 8 (32 * a.val + 3)) = BitVec.ofNat 16 (s.port a).threshold.val ∧
    s.busRead (BitVec.ofNat 8 (32 * a.val + 4)) =
      (match (s.port a).view with
       | .top => 4
       | .fixed l => BitVec.ofNat 16 l.val)) ∧
  (∀ (s : State) (a : Agent), s.inReset = false → StacksOrdered s → WithdrawnBounded s →
    let p := s.port a
    let word (offset : Nat) : Word := s.busRead (BitVec.ofNat 8 (32 * a.val + offset))
    (p.timerRunning = true ↔ p.state ≠ .draining ∧ ∃ r below, p.stack = r :: below ∧ r.remaining.isSome = true) ∧
    (word 0x05).toNat =
      (match p.state with
        | .off => 0
        | .active => 1
        | .asleep => 2
        | .draining => 3) + (if p.timerRunning then 4 else 0) + 16 * p.stack.length +
        256 * (match p.stack with
          | [] => 0
          | r :: _ => r.cls.val) ∧
    (word 0x06).toNat =
      (match p.lastResult with
        | .idle => 0
        | .claimed => 1
        | .noRecord => 2
        | .deferred => 3
        | .done => 4
        | .released => 5
        | .notTop => 6
        | .late => 7
        | .unknown => 8
        | .draining => 9
        | .taken => 10
        | .stackBusy => 11
        | .sleepRefused => 12
        | .badRequest => 13) ∧
    (word 0x12).toNat = p.withdrawn.length ∧
    ∀ i : Nat, i < 4 →
      (∀ x, p.withdrawn[i]? = some x → (word (0x13 + i)).toNat = x.source.val + 256 * x.seq.toNat) ∧
      (p.withdrawn.length ≤ i → word (0x13 + i) = 0x003F))

/-- NOTIFYn, WAKE_N and WAKE_CAUSE (R78, R79, R80): WAKE_CAUSE is read at offset 7 of the agent's page; a CLAIM or an
ENABLE clears it, and NOTIFYn takes over while work is still eligible. -/
def Obligations.NotificationOutputs : Prop :=
  (∀ (s : State) (a : Agent),
    (s.notify a = true ↔ (s.port a).state = .active ∧ ∃ r ∈ s.pendingRecords, s.eligible a r = true) ∧
    (s.wakeCause a = true ↔ (s.port a).state = .asleep ∧ ∃ r ∈ s.pendingRecords, s.eligible a r = true)) ∧
  (∀ s : State, s.wakeDriven = true ↔
    ∃ a, (s.port a).state = .asleep ∧ ∃ r ∈ s.pendingRecords, s.eligible a r = true) ∧
  (∀ a, State.reset.notify a = false ∧ State.reset.wakeDriven = false) ∧
  ∀ (s : State) (a : Agent), s.inReset = false →
    s.busRead (BitVec.ofNat 8 (32 * a.val + 7)) = (if s.wakeCause a then 1 else 0) ∧
    (s.wakeCause a = true → ∀ c, c = .claim a ∨ c = .enable a →
      ∃ t, exec c s = .next t ∧ t.wakeCause a = false ∧
        (t.notify a = true ↔ ∃ r ∈ t.pendingRecords, t.eligible a r = true))

/-- The empty claim view (R77): when it is shown, what its ten words read, and that no record looks like it.
The view of a record (R75, R76, R197): the record at index i of a stack listed from the top down is at level
depth − 1 − i; each of the ten words shows its fields at their bits. -/
def Obligations.EmptyClaimView : Prop :=
  ∀ (s : State) (a : Agent), s.inReset = false → CountsPositive s →
    let p := s.port a
    let empty := p.stack = [] ∨ ∃ l : Fin 4, p.view = .fixed l ∧ p.stack.length ≤ l.val
    (p.viewed = none ↔ empty) ∧
    (empty →
      s.busRead (BitVec.ofNat 8 (32 * a.val + 8)) = 0x003F ∧
      ∀ i : Nat, 9 ≤ i → i ≤ 0x11 → s.busRead (BitVec.ofNat 8 (32 * a.val + i)) = 0) ∧
    (¬empty → (s.busRead (BitVec.ofNat 8 (32 * a.val + 0x0B))).extractLsb' 0 8 ≠ (0 : Byte)) ∧
    (p.stack.length ≤ 4 → ∀ (i : Nat) (r : EventRecord), p.stack[i]? = some r →
      (p.view = .top ∧ i = 0) ∨ (∃ l : Fin 4, p.view = .fixed l ∧ i + l.val + 1 = p.stack.length) →
      let word (k : Nat) : Word := s.busRead (BitVec.ofNat 8 (32 * a.val + 8 + k))
      let bit (b : Bool) (n : Nat) : Nat := if b then n else 0
      (word 0).toNat = r.source.val + 256 * r.seq.toNat ∧
      word 1 = r.snap.handle ∧
      (word 2).toNat =
        r.cls.val + 16 * r.returns.val +
          256 * (match r.payload with
            | .absent => 0
            | .one _ => 1
            | .two _ _ => 2) + 4096 * (p.stack.length - 1 - i) ∧
      (word 3).toNat =
        r.count.toNat + bit r.escalated 256 + bit r.abandoned 512 + bit r.overdue 1024 + bit r.forwarded 2048 +
          (match r.retarget with
            | none => 0
            | some b => 4096 * b.val + 16384) ∧
      word 4 = r.stamp.extractLsb' 0 16 ∧ word 5 = r.stamp.extractLsb' 16 16 ∧
      word 6 =
        (match r.payload with
          | .absent => 0
          | .one w => w
          | .two w _ => w) ∧
      word 7 =
        (match r.payload with
          | .two _ w => w
          | _ => 0) ∧
      word 8 =
        (match r.remaining with
          | none => 0
          | some n => n) ∧
      (word 9).toNat = r.slot.val)

/-! ## Deadline expiry -/

/-- DEADLINE_EXPIRY of a RETURN or ESCALATE record below its retry limit (R93, R95, R96, R71): it is popped, its pair
joins the withdrawn list, and it is handed back to the head of its queue, under ESCALATE one class higher, marked
and retargeted to its fallback.
DEADLINE_EXPIRY of a NOTE record (R97): it stays on top with its timer stopped; the first time it is marked overdue,
OVERDUE is set and DEADLINE is raised. -/
def Obligations.ExpiryHandsBackOrNotes : Prop :=
  (∀ (s : State) (a : Agent) (r : EventRecord) (below : List EventRecord), s.inReset = false →
    (s.port a).state ≠ .draining → (s.port a).tickDue = true → (s.port a).stack = r :: below →
    r.remaining.isSome = true → r.returns.val < r.snap.retryLimit.val →
    let kept := (s.port a).withdrawn.filter (· != r.pair) ++ [r.pair]
    let s1 := s.setPort a
      { s.port a with stack := below, tickDue := false, withdrawn := kept.drop (kept.length - 4) }
    let back : EventRecord := { r with remaining := none, returns := satFin r.returns }
    (r.snap.policy = .handBack → exec (.deadlineExpiry a) s = .next (s1.handBack back)) ∧
    (r.snap.policy = .escalate →
      let up : EventRecord := { back with cls := satFin r.cls, escalated := true }
      exec (.deadlineExpiry a) s = .next
        (s1.handBack
          (match r.snap.fallback with
           | none => up
           | some b =>
             { up with
               retarget := some b
               declined := if r.declined.getLsbD b.val then 0 else r.declined })))) ∧
  (∀ (s : State) (a : Agent) (r : EventRecord) (below : List EventRecord), s.inReset = false →
    (s.port a).state ≠ .draining → (s.port a).tickDue = true → (s.port a).stack = r :: below →
    r.remaining.isSome = true → r.snap.policy = .note →
    let s1 := s.setPort a
      { s.port a with stack := { r with remaining := none, overdue := true } :: below, tickDue := false }
    (r.overdue = true → exec (.deadlineExpiry a) s = .next s1) ∧
    (r.overdue = false →
      exec (.deadlineExpiry a) s = .next
        ((s1.setFault .overdue).raise 1 (0x2000 ||| BitVec.ofNat 16 r.source.val) (r.seq.setWidth 16))))

/-- DEADLINE_EXPIRY of a RETURN or ESCALATE record at or above its retry limit (R94, R99, R134): it is retired. For a
posted source nothing else comes of the freeing, for a channel source the grant grows; for every source the freeing's
own arrivals and the DEADLINE raising are resolved after it, in one order or the other (log 6). -/
def Obligations.ExpiryRetires : Prop :=
  ∀ (s : State) (a : Agent) (r : EventRecord) (below : List EventRecord), s.inReset = false →
    (s.port a).state ≠ .draining → (s.port a).tickDue = true → (s.port a).stack = r :: below →
    r.remaining.isSome = true → r.snap.policy ≠ .note → r.snap.retryLimit.val ≤ r.returns.val →
    let kept := (s.port a).withdrawn.filter (· != r.pair) ++ [r.pair]
    let s1 := s.setPort a
      { s.port a with stack := below, tickDue := false, withdrawn := kept.drop (kept.length - 4) }
    let w0 : Word := 0x1000 ||| BitVec.ofNat 16 r.source.val
    let w1 : Word := r.seq.setWidth 16
    (32 ≤ r.source.val → r.source.val < 44 →
      exec (.deadlineExpiry a) s = .next ((s1.setFault .retired).raise 1 w0 w1)) ∧
    (44 ≤ r.source.val → r.source.val < 60 →
      exec (.deadlineExpiry a) s = .next ((s1.growGrant.setFault .retired).raise 1 w0 w1)) ∧
    (let freed := s1.freeInService r.source
     ∃ order ∈ [freed.2 ++ [.raise 1 w0 w1], .raise 1 w0 w1 :: freed.2], ∃ n,
      exec (.deadlineExpiry a) s = .next
        (order.foldl (fun t f => followUp f t) { freed.1.setFault .retired with choices := n }))

/-! ## Registers with a write rule of their own -/

/-- What the words 0x80 to 0x9F read (R108, R109, R198): the selected entry in both copies, the edit status, and
both deadline tables. -/
abbrev Sys2Proof.Machine.TableWordsRead (s : State) : Prop :=
  let word (address : Nat) : Word := s.busRead (BitVec.ofNat 8 address)
  let bit (b : Bool) (n : Nat) : Nat := if b then n else 0
  let sel := s.table.entrySel
  (word 0x80).toNat = sel.val ∧
  (∀ k : Fin 4, word (0x81 + k.val) = (s.table.staging[sel]).word k ∧ word (0x85 + k.val) = (s.entry sel).word k) ∧
  (∀ e : Entry,
    e.word 0 = e.handle ∧
    (e.word 1).toNat =
      e.agentSet.toNat + bit e.link 128 + 256 * e.channel.toNat + 4096 * e.fallbackAgent.toNat +
        bit e.fallbackPresent 16384 ∧
    (e.word 2).toNat =
      e.cls.toNat + 16 * e.maxOutstanding.toNat + 256 * e.coalesce.toNat + 1024 * e.deadlineIndex.toNat +
        bit e.enable 32768 ∧
    (e.word 3).toNat =
      e.policy.toNat + 4 * e.retryLimit.toNat + 256 * e.trigger.toNat + 4096 * e.filter.toNat +
        bit e.capture 32768) ∧
  (word 0x89).toNat =
    (match s.table.session with
      | .closed => 0
      | .opened => 1
      | .committing => 2) + bit s.table.frozen 256 ∧
  (∀ i : Fin 8, word (0x90 + i.val) = s.table.stagingDeadlines[i] ∧ word (0x98 + i.val) = s.table.activeDeadlines[i])

/-- What the words 0xA0 to 0xBA read of the holds, internal sources, lines, sources, queues, Pool, Post Unit and Command
Unit (R16, R20, R27, R45, R54, R132, R186, R198, R199). -/
abbrev Sys2Proof.Machine.StatusWordsRead (s : State) : Prop :=
  let word (address : Nat) : Word := s.busRead (BitVec.ofNat 8 address)
  let bit (b : Bool) (n : Nat) : Nat := if b then n else 0
  (∀ src : Source, (word (0xA0 + src.val / 16)).getLsbD (src.val % 16) = s.held src) ∧
  (∀ i : Fin 4,
    ((word 0xA5).extractLsb' (4 * i.val) 4).toNat =
      (if s.pendingRecords.any (·.source == internalSource i) then 1
       else if s.stackedRecords.any (·.source == internalSource i) then 2 else 0) +
        bit (s.internal i).raisedAgain 4) ∧
  (∀ n : Line, (word (0xA6 + n.val / 16)).getLsbD (n.val % 16) = (s.line n).stable) ∧
  (word 0xA8).toNat = s.pool.srcSel.val ∧
  (word 0xA9).toNat = s.outstanding s.pool.srcSel + 256 * s.pool.overflow[s.pool.srcSel].toNat ∧
  (word 0xAA).toNat = s.pool.nextSeq[s.pool.srcSel].toNat ∧
  (word 0xAB).toNat = s.dispatcher.qselClass.val + 256 * s.dispatcher.qselPosition.val ∧
  (∀ c : Sys2Proof.Class, (word 0xAC).getLsbD c.val = true ↔ s.queue c ≠ []) ∧
  (word 0xAD).toNat = (s.queue s.dispatcher.qselClass).length ∧
  (∀ r, (s.queue s.dispatcher.qselClass)[s.dispatcher.qselPosition.val]? = some r →
    (word 0xAE).toNat = r.source.val + 256 * r.seq.toNat ∧
    (word 0xAF).toNat =
      r.cls.val + bit (s.held r.source) 256 + bit r.escalated 512 + bit r.retarget.isSome 1024 +
        bit r.abandoned 2048) ∧
  ((s.queue s.dispatcher.qselClass).length ≤ s.dispatcher.qselPosition.val → word 0xAE = 0x003F ∧ word 0xAF = 0) ∧
  (word 0xB0).toNat =
    128 - (s.heldCount .general + s.heldCount .linkReserve + s.heldCount .internal) +
      256 * s.pool.linkReserve.toNat ∧
  (word 0xB1).toNat = s.heldCount .general + 256 * s.heldCount .linkReserve + 8192 * s.heldCount .internal ∧
  (word 0xB3).toNat = s.pool.linkReserve.toNat ∧
  word 0xB5 = s.post.data0 ∧ word 0xB6 = s.post.data1 ∧ (word 0xB7).toNat = s.post.len.toNat ∧
  (word 0xB8).toNat =
    (match s.command.status with
      | .idle => 0
      | .busy => 1
      | .done => 2
      | .refused => 3) + 4 * s.command.issuer.val +
      16 * (match s.command.reason with
        | .noReason => 0
        | .frozen => 1
        | .sessionOpen => 2
        | .noSession => 3
        | .invalid => 4
        | .badSource => 5
        | .badLength => 6
        | .badAgent => 7
        | .already => 8
        | .badCommand => 9) + 256 * s.command.code.toNat ∧
  (word 0xB9).toNat = s.command.operand.toNat ∧ word 0xBA = s.command.result

/-- What the link's words read (R140, R157, R162, R178, R198). -/
abbrev Sys2Proof.Machine.LinkWordsRead (s : State) : Prop :=
  let word (address : Nat) : Word := s.busRead (BitVec.ofNat 8 address)
  let difference := (s.link.peerGrant - s.transmitter.firstSends).toNat
  (word 0xC0).toNat = s.params.div.toNat ∧ word 0xC1 = s.params.timeout ∧
  (word 0xC2).toNat = s.params.retries.toNat ∧
  (word 0xC4).toNat =
    (match s.link.state with
      | .stopped => 0
      | .helloSent => 1
      | .up => 2
      | .down => 3) +
      4 * (match s.link.downCause with
        | .never => 0
        | .helloTimeout => 1
        | .retriesExhausted => 2) + 16 * s.link.attempts.val + 256 * s.link.session.toNat ∧
  (word 0xC5).toNat = s.faults.crcErrors.toNat + 256 * s.faults.linkLost.toNat ∧
  (word 0xC6).toNat = s.link.peerGrant.toNat + 256 * (if difference ≤ 16 then difference else 0) ∧
  (word 0xC7).toNat = s.transmitter.sendSeq.toNat + 256 * s.transmitter.firstSends.toNat ∧
  (word 0xC8).toNat =
    s.transmitter.queue.length + 256 * s.transmitter.sent +
      (if s.transmitter.timer = .stopped then 0 else 2048) + 4096 * s.transmitter.retry.val ∧
  (word 0xC9).toNat = s.receiver.expected.toNat + 256 * s.receiver.gOut.toNat

/-- HOLD_WRITE (R45): the sixteen flags of the word are replaced, and read back.
REGISTER_WRITE of a register that only stores its fields (R16, R27, R54, R108, R200), and of an address that takes no
write (R181).
What the words of the common area read, in a state where the bounds the part keeps hold (R182, R198); an address that
names no word, and a write-only word, reads 0 (R181). -/
def Obligations.PlainRegisterWrites : Prop :=
  (∀ (s : State) (k : Fin 4) (w : Word), s.inReset = false →
    ∃ t, exec (.holdWrite k w) s = .next t ∧
      t = { s with dispatcher := { s.dispatcher with hold := t.dispatcher.hold } } ∧
      t.busRead (BitVec.ofNat 8 (0xA0 + k.val)) = w ∧
      ∀ src : Source, t.held src = if src.val / 16 = k.val then w.getLsbD (src.val % 16) else s.held src) ∧
  (∀ (s : State) (w : Word), s.inReset = false →
    exec (.registerWrite 0x80 w) s = .next { s with table := { s.table with entrySel := (w.extractLsb' 0 6).toFin } } ∧
    exec (.registerWrite 0xA8 w) s = .next { s with pool := { s.pool with srcSel := (w.extractLsb' 0 6).toFin } } ∧
    exec (.registerWrite 0xAB w) s = .next
      { s with
        dispatcher :=
          { s.dispatcher with qselClass := (w.extractLsb' 0 4).toFin, qselPosition := (w.extractLsb' 8 7).toFin } } ∧
    exec (.registerWrite 0xB5 w) s = .next { s with post := { s.post with data0 := w } } ∧
    exec (.registerWrite 0xB6 w) s = .next { s with post := { s.post with data1 := w } } ∧
    exec (.registerWrite 0xB7 w) s = .next { s with post := { s.post with len := w.extractLsb' 0 2 } } ∧
    ∀ address : Byte, hasOwnRow address = false →
      address ∉ ([0x80, 0xA8, 0xAB, 0xB5, 0xB6, 0xB7] : List Byte) → exec (.registerWrite address w) s = .next s) ∧
  (∀ s : State, s.inReset = false → SlotsDistinct s → PartitionsBounded s → OutstandingBounded s → ForwardWindow s →
    TableWordsRead s ∧ StatusWordsRead s ∧ LinkWordsRead s) ∧
  (∀ s : State, ∀ address : Nat,
    (address < 0x80 ∧
      address % 32 ∈ ([0x01, 0x02, 0x17, 0x18, 0x19, 0x1C, 0x1D, 0x1E, 0x1F] : List Nat)) ∨
    (0x8A ≤ address ∧ address ≤ 0x8F) ∨ address = 0xB2 ∨ (0xBB ≤ address ∧ address ≤ 0xBF) ∨ address = 0xC3 ∨
      (0xCA ≤ address ∧ address ≤ 0xFF) →
    s.busRead (BitVec.ofNat 8 address) = 0)

/-- FAULT_WRITE and a read of the fault word (R130), the bit each flag stands at (R198), and what an event that sets a
flag changes (R129): that flag alone. -/
def Obligations.FaultWordReadAndWrite : Prop :=
  ∀ (s : State) (w : Word), s.inReset = false →
    (∀ i : Nat, (s.busRead 0xA4).getLsbD i = s.faults.flags.getLsbD i) ∧
    ∃ t, exec (.faultWrite w) s = .next t ∧ t = { s with faults := { s.faults with flags := t.faults.flags } } ∧
      (∀ i : Nat, t.faults.flags.getLsbD i = (s.faults.flags.getLsbD i && !w.getLsbD i)) ∧
    let place : FaultFlag → Nat
      | .overflow => 0
      | .retired => 1
      | .overdue => 2
      | .linkDown => 3
      | .creditOverrun => 4
      | .crc => 5
      | .peerRestart => 6
      | .commitInvalid => 7
      | .cmdOverrun => 8
      | .stageClosed => 9
      | .reserveRefused => 10
    ∀ f : FaultFlag,
      s.faultSet f = (s.busRead 0xA4).getLsbD (place f) ∧
      let u := s.setFault f
      u = { s with faults := { s.faults with flags := u.faults.flags } } ∧
        ∀ i : Nat, u.faults.flags.getLsbD i = (s.faults.flags.getLsbD i || decide (i = place f))

/-- LINK_RESERVE_WRITE (R13, R177, R136): accepted only while STOPPED and when the counts allow, else refused with
RESERVE_REFUSED and a CONTROL raising of the value written.
LINK_DIV_WRITE, LINK_TIMEOUT_WRITE and LINK_RETRIES_WRITE (R140, R200). -/
def Obligations.LinkRegisterWrites : Prop :=
  (∀ (s : State) (w : Word), s.inReset = false →
    let v : Byte := w.extractLsb' 0 8
    let fits := s.link.state = .stopped ∧ v.toNat ≤ 16 ∧ s.heldCount .linkReserve ≤ v.toNat ∧
      s.heldCount .general ≤ 124 - v.toNat
    (fits → exec (.linkReserveWrite w) s = .next { s with pool := { s.pool with linkReserve := v } }) ∧
    (¬fits → exec (.linkReserveWrite w) s = .next ((s.setFault .reserveRefused).raise 3 4 (v.setWidth 16)))) ∧
  (∀ (s : State) (w : Word), s.inReset = false →
    let v : Byte := w.extractLsb' 0 8
    exec (.linkDivWrite w) s =
      (if (s.link.state = .stopped ∨ s.link.state = .down) ∧ 3 ≤ v.toNat then
        .next { s with params := { s.params with div := v } }
      else .next s) ∧
    exec (.linkTimeoutWrite w) s =
      (if w = 0 then .next s else .next { s with params := { s.params with timeout := w } }) ∧
    exec (.linkRetriesWrite w) s =
      (if 1 ≤ v.toNat ∧ v.toNat ≤ 7 then .next { s with params := { s.params with retries := v } } else .next s))

/-- STAGING_ENTRY_WRITE and STAGING_DEADLINE_WRITE (R109, R110): taken while OPEN, every code read back as written;
otherwise STAGE_CLOSED is set and CONTROL raised. -/
def Obligations.StagingWriteResults : Prop :=
  ∀ (s : State) (k : Fin 4) (i : Fin 8) (w : Word), s.inReset = false →
    let sel := s.table.entrySel
    (s.table.session = .opened →
      (∃ e : Entry,
        exec (.stagingEntryWrite k w) s = .next
          { s with table := { s.table with staging := s.table.staging.set sel.val e sel.isLt } } ∧
        (∀ j : Fin 4, j ≠ k → e.word j = (s.table.staging[sel]).word j) ∧
        (k = 0 → e.word k = w) ∧ (k = 1 → e.word k = w &&& 0x7F8F) ∧ (k = 2 → e.word k = w &&& 0x9FFF) ∧
        (k = 3 → e.word k = w &&& 0xF71F)) ∧
      exec (.stagingDeadlineWrite i w) s = .next
        { s with table := { s.table with stagingDeadlines := s.table.stagingDeadlines.set i.val w i.isLt } }) ∧
    (s.table.session ≠ .opened →
      exec (.stagingEntryWrite k w) s = .next
        ((s.setFault .stageClosed).raise 3 1 (BitVec.ofNat 16 sel.val)) ∧
      exec (.stagingDeadlineWrite i w) s = .next
        ((s.setFault .stageClosed).raise 3 1 (BitVec.ofNat 16 (64 + i.val))))

/-! ## The Command Unit -/

/-- What the result statements below say of the command status: every field is replaced, and no walk is in flight. -/
abbrev Sys2Proof.Machine.commandEnds (s : State) (page : Agent) (code operand : Byte) (st : CommandStatus) (reason : Reason)
    (result : Word) : State :=
  { s with
    command :=
      { status := st, code := code, operand := operand, issuer := page, reason := reason, result := result
        walk := none } }

/-- What the result statements below say of a walk that is accepted (R189). -/
abbrev Sys2Proof.Machine.walkBegins (s : State) (page : Agent) (code operand : Byte) (result : Word) (w : Walk) : State :=
  { s with
    command :=
      { status := .busy, code := code, operand := operand, issuer := page, reason := .noReason, result := result
        walk := some w } }

/-- A command written while a walk is in flight (R190): CMD_OVERRUN is set and CONTROL raised with the code; nothing
else changes.
BAD_COMMAND while IDLE (R187): refused, and nothing else changes. -/
def Obligations.CommandsNotTaken : Prop :=
  (∀ (s : State) (page : Agent) (operand code : Byte), s.inReset = false → s.walking = true →
    let overrun (c : Instr) (written : Word) :=
      exec c s = .next ((s.setFault .cmdOverrun).raise 3 3 written)
    overrun (.editBegin page operand) 1 ∧ overrun (.editAbandon page operand) 2 ∧ overrun (.commit page operand) 3 ∧
    overrun (.freeze page operand) 4 ∧ overrun (.post page operand) 5 ∧ overrun (.purge page operand) 6 ∧
    overrun (.agentReset page operand) 7 ∧ overrun (.clear page operand) 8 ∧ overrun (.linkStart page operand) 9 ∧
    overrun (.linkStop page operand) 10 ∧ overrun (.badCommand page code operand) (code.setWidth 16)) ∧
  (∀ (s : State) (page : Agent) (code operand : Byte), s.inReset = false → s.walking = false →
    code.toNat = 0 ∨ 11 ≤ code.toNat →
    exec (.badCommand page code operand) s = .next (commandEnds s page code operand .refused .badCommand 0))

/-- EDIT_BEGIN (R111), in a part whose session is not COMMITTING (while it is, a walk is in flight and the command is an
overrun). -/
def Obligations.EditBeginResult : Prop :=
  ∀ (s : State) (page : Agent) (operand : Byte), s.inReset = false →
    let ends (t : State) (st : CommandStatus) (reason : Reason) :=
      exec (.editBegin page operand) s = .next (commandEnds t page 1 operand st reason 0)
    (s.walking = false →
      (s.table.frozen = true → ends s .refused .frozen) ∧
      (s.table.frozen = false → s.table.session = .opened → ends s .refused .sessionOpen) ∧
      (s.table.frozen = false → s.table.session = .closed →
        ends
          { s with
            table :=
              { s.table with
                staging := s.table.active, stagingDeadlines := s.table.activeDeadlines, session := .opened } }
          .done .noReason)) ∧
    (UnitConsistent s → s.table.session = .committing →
      exec (.editBegin page operand) s = .next ((s.setFault .cmdOverrun).raise 3 3 1))

/-- EDIT_ABANDON (R112). -/
def Obligations.EditAbandonResult : Prop :=
  ∀ (s : State) (page : Agent) (operand : Byte), s.inReset = false →
    (s.walking = false →
      (s.table.session = .opened →
        exec (.editAbandon page operand) s = .next
          (commandEnds { s with table := { s.table with session := .closed } } page 2 operand .done .noReason 0)) ∧
      (s.table.session = .closed →
        exec (.editAbandon page operand) s = .next (commandEnds s page 2 operand .refused .noSession 0))) ∧
    (UnitConsistent s → s.table.session = .committing →
      exec (.editAbandon page operand) s = .next ((s.setFault .cmdOverrun).raise 3 3 2))

/-- FREEZE while IDLE (R122).
R123: while the frozen flag is set no step but a power-on reset changes the active tables or the flag. -/
def Obligations.FreezeIsFinal : Prop :=
  (∀ (s : State) (page : Agent) (operand : Byte), s.inReset = false → s.walking = false →
    (s.table.session = .closed →
      exec (.freeze page operand) s = .next
        (commandEnds { s with table := { s.table with frozen := true } } page 4 operand .done .noReason 0)) ∧
    (s.table.session = .opened →
      exec (.freeze page operand) s = .next (commandEnds s page 4 operand .refused .sessionOpen 0))) ∧
  (∀ s t, UnitConsistent s → s.table.frozen = true → step s = .next t → s.pending.head? ≠ some .powerOnReset →
    t.table.frozen = true ∧ t.table.active = s.table.active ∧ t.table.activeDeadlines = s.table.activeDeadlines)

/-- When an enabled entry is invalid (R113), code by code.
COMMIT refused (R113, R114): NO_SESSION, or INVALID with the lowest invalid entry, COMMIT_INVALID and CONTROL.
COMMIT that passes validation (R115): the switch. With no filter candidate in progress the re-arm occasions of R24
follow it; when no line is an active level line whose source has no record, the switch is all.
With candidates in progress (R26): those that the last tick made due are taken before the switch, under the old entries,
by their CANDIDATE_STABLE commands in a free order (log 6, 22). At the switch, under a new filter length 0 a candidate
becomes the stable level, otherwise it keeps its level and count. The arrivals these changes make under the new entries
come first, then the re-arm occasions of R24, both in a free order (log 6, 20). -/
def Obligations.CommitCommand : Prop :=
  (∀ (e : Entry) (src : Source),
    e.invalid src = true ↔
      e.enable = true ∧
      ((e.link = false ∧ e.agentSet = 0) ∨ (e.link = true ∧ e.agentSet ≠ 0) ∨
       e.handle = 0xFFFE ∨ e.handle = 0xFFFF ∨
       e.maxOutstanding = 0 ∨ 9 ≤ e.maxOutstanding.toNat ∨ e.coalesce = 3 ∨ e.policy = 3 ∨
       (src.val < 32 ∧ 5 ≤ e.trigger.toNat) ∨
       (44 ≤ src.val ∧ src.val < 60 ∧ e.link = true) ∨
       (60 ≤ src.val ∧ (e.link = true ∨ e.maxOutstanding ≠ 1 ∨ e.coalesce ≠ 1)))) ∧
  (∀ (s : State) (page : Agent) (operand : Byte), s.inReset = false → s.walking = false →
    (s.table.session = .closed →
      exec (.commit page operand) s = .next (commandEnds s page 3 operand .refused .noSession 0)) ∧
    (s.table.session = .opened → ∀ src : Source, (s.table.staging[src]).invalid src = true →
      (∀ lower : Source, lower < src → (s.table.staging[lower]).invalid lower = false) →
      exec (.commit page operand) s = .next
        (((commandEnds s page 3 operand .refused .invalid (BitVec.ofNat 16 src.val)).setFault .commitInvalid).raise 3 2
          (BitVec.ofNat 16 src.val)))) ∧
  (∀ (s : State) (page : Agent) (operand : Byte), s.inReset = false → s.walking = false →
    s.table.session = .opened → (∀ src : Source, (s.table.staging[src]).invalid src = false) →
    let switch (u : State) :=
      walkBegins
        { u with
          table :=
            { s.table with
              active := s.table.staging, activeDeadlines := s.table.stagingDeadlines, session := .committing } }
        page 3 operand 0 (.regroup ⟨15, 0⟩)
    let switched := switch s
    (∃ t, exec (.commit page operand) s = .next t ∧ t.table = switched.table ∧ t.command = switched.command ∧
      t.ports = s.ports ∧ t.link = s.link ∧ t.timebase = s.timebase) ∧
    ((∀ n, (s.line n).candidate = none) →
      (∀ n, switched.lineActive n = false ∨ switched.outstanding (lineSource n) ≠ 0) →
      exec (.commit page operand) s = .next switched) ∧
    (∀ n, (∀ m, (s.line m).candidate = none) →
      (∀ m, m ≠ n → switched.lineActive m = false ∨ switched.outstanding (lineSource m) ≠ 0) →
      switched.lineActive n = true → switched.outstanding (lineSource n) = 0 →
      exec (.commit page operand) s = .next (switched.resolve (switched.lineArrival n)).1) ∧
    (∃ taken : List Instr, taken.Perm ((linesWithDueCandidate s).map .candidateStable) ∧
     ∃ s0, CarriedOut taken s s0 ∧
     let filter (n : Line) : Nat := (s.table.staging[lineSource n]).filter.toNat
     let s1 : State :=
      { switch s0 with
        lines := Vector.ofFn fun n : Line =>
          match (s0.line n).candidate with
          | none => s0.line n
          | some c =>
            if filter n = 0 then { s0.line n with stable := c.level, candidate := none } else s0.line n }
     let changed : List Line := (List.finRange 32).filter fun n =>
       filter n == 0 && (s0.line n).candidate.isSome && s1.qualifies n (s1.line n).stable
     ∃ first : List FollowUp, first.Perm (changed.map fun n => .arrival (s1.lineArrival n)) ∧ ∃ n1,
      let s2 := first.foldl (fun t f => followUp f t) { s1 with choices := n1 }
      let rearmed : List Line := (List.finRange 32).filter fun n =>
        s2.lineActive n && s2.outstanding (lineSource n) == 0
      ∃ second : List FollowUp, second.Perm (rearmed.map .rearm) ∧ ∃ n2,
        exec (.commit page operand) s = .next
          (second.foldl (fun t f => followUp f t) { s2 with choices := n2 })))

/-! ## Walks -/

/-- A walk's next record (R50): none when no record lies at or behind its position. A record found is in the queue it is
found in, at the position given, and every queue between is empty at the position's end.
What places a record at the head of its class queue does (R42, R50): the other queues keep their records, and a
queue walk in that queue has passed the record. -/
def Obligations.WalkPositionAndHeadInsertion : Prop :=
  (∀ (s : State) (p : QueuePos),
    (s.nextVisit p = none ↔
      (s.queue p.queue).length ≤ p.passed ∧ ∀ c : Sys2Proof.Class, c < p.queue → s.queue c = []) ∧
    (∀ q r, s.nextVisit p = some (q, r) →
      (s.queue q.queue)[q.passed]? = some r ∧
      ((q = p) ∨
        (q.queue < p.queue ∧ q.passed = 0 ∧ (s.queue p.queue).length ≤ p.passed ∧
          ∀ c : Sys2Proof.Class, q.queue < c → c < p.queue → s.queue c = [])))) ∧
  (∀ (s : State) (r : EventRecord),
    let t := s.insertHead r
    t.queue r.cls = r :: s.queue r.cls ∧ (∀ c, c ≠ r.cls → t.queue c = s.queue c) ∧
    t = { s with
      dispatcher := { s.dispatcher with queues := t.dispatcher.queues }
      command := { s.command with walk := t.command.walk } } ∧
    (s.command.walk = none → t.command.walk = none) ∧
    ∀ p : QueuePos,
      let q : QueuePos := if p.queue = r.cls then { p with passed := p.passed + 1 } else p
      (s.command.walk = some (.regroup p) → t.command.walk = some (.regroup q)) ∧
      (∀ src, s.command.walk = some (.purge src p) → t.command.walk = some (.purge src q)) ∧
      (s.command.walk = some (.clear p) → t.command.walk = some (.clear q)))

/-- REGROUP_VISIT (R117, R118, R119): the next record is refreshed and, when its class changes, moved to the tail of its
new queue and counted; or it is left as it is. Entering the next queue visits nothing. That the declined set of an
escalated record with a retarget is tested once, against the retarget it is left with (R61), is the model's choice where
R119 also bears a test against the new targets before it (log 32).
REGROUP_END (R120), when the walk has no record left: CLOSED, DONE, the result kept. -/
def Obligations.RegroupWalk : Prop :=
  (∀ (s : State) (p : QueuePos), s.inReset = false → s.command.walk = some (.regroup p) →
    (∀ q r, s.nextVisit p = some (q, r) →
      let e := s.entry r.source
      let past : QueuePos := { q with passed := q.passed + 1 }
      let at' (t : State) (pos : QueuePos) : State := { t with command := { t.command with walk := some (.regroup pos) } }
      let tested (x : EventRecord) : EventRecord :=
        { x with declined := if x.declined &&& x.mayGoTo = x.mayGoTo then 0 else x.declined }
      let refreshes := e.link = false ∧ e.agentSet ≠ 0 ∧ ({ e with enable := true } : Entry).invalid r.source = false
      let kept := match r.retarget with
        | none => none
        | some b => if e.agentSet.getLsbD b.val = true ∨ e.fallback = some b then some b else e.fallback
      let r' := if r.escalated then tested { r with snap := e.snapshot, retarget := kept }
        else tested { r with snap := e.snapshot, retarget := none, cls := e.cls.toFin }
      (¬refreshes → exec (.regroupVisit .record) s = .next (at' s past)) ∧
      (refreshes → r'.cls = r.cls →
        exec (.regroupVisit .record) s = .next (at' (s.changePending r.slot fun _ => r') past)) ∧
      (refreshes → r'.cls ≠ r.cls →
        exec (.regroupVisit .record) s = .next
          { (s.removePending r.slot).insertTail r' with
            command := { s.command with walk := some (.regroup q), result := s.command.result + 1 } })) ∧
    ((s.queue p.queue).length ≤ p.passed → ∀ c : Sys2Proof.Class, c.val + 1 = p.queue.val →
      exec (.regroupVisit .nextQueue) s = .next { s with command := { s.command with walk := some (.regroup ⟨c, 0⟩) } })) ∧
  (∀ (s : State) (p : QueuePos), s.inReset = false → s.command.walk = some (.regroup p) → s.nextVisit p = none →
    exec .regroupEnd s = .next
      { s with
        table := { s.table with session := .closed }
        command := { s.command with status := .done, walk := none } })

/-- POST while IDLE (R28, R199): refused BAD_SOURCE, then BAD_LENGTH; otherwise one arrival and its result. -/
def Obligations.PostResult : Prop :=
  ∀ (s : State) (page : Agent) (operand : Byte), s.inReset = false → s.walking = false →
    (11 < operand.toNat → exec (.post page operand) s = .next (commandEnds s page 5 operand .refused .badSource 0)) ∧
    (operand.toNat ≤ 11 → s.post.len = 3 →
      exec (.post page operand) s = .next (commandEnds s page 5 operand .refused .badLength 0)) ∧
    (∀ src : Source, src.val = 32 + operand.toNat → operand.toNat ≤ 11 → s.post.len ≠ 3 →
      let data : Payload :=
        if s.post.len = 0 then .absent else if s.post.len = 1 then .one s.post.data0
        else .two s.post.data0 s.post.data1
      let after := s.resolve ⟨src, data, 1⟩
      after.2 ≠ .discarded ∧
      exec (.post page operand) s = .next
        (commandEnds after.1 page 5 operand .done .noReason
          (match after.2 with
           | .merged => 2
           | .overflow => 3
           | .ignored => 4
           | _ => 1)))

/-- PURGE while IDLE (R51): refused BAD_SOURCE, or the source is under PURGE and the walk stands at queue 15.
PURGE_VISIT (R52): a record of the source is freed and counted, the grant growing for a link channel; another record
is passed over.
PURGE_END (R53), when the walk has no record left: the source is no longer under PURGE, its level line is re-armed
when nothing of it is outstanding, DONE with the count. -/
def Obligations.PurgeWalk : Prop :=
  (∀ (s : State) (page : Agent) (operand : Byte), s.inReset = false → s.walking = false →
    (64 ≤ operand.toNat → exec (.purge page operand) s = .next (commandEnds s page 6 operand .refused .badSource 0)) ∧
    (∀ src : Source, src.val = operand.toNat →
      let t := walkBegins s page 6 operand 0 (.purge src ⟨15, 0⟩)
      exec (.purge page operand) s = .next t ∧ t.underPurge src = true)) ∧
  (∀ (s : State) (src : Source) (p : QueuePos), s.inReset = false → s.command.walk = some (.purge src p) →
    (∀ q r, s.nextVisit p = some (q, r) →
      let at' (pos : QueuePos) (result : Word) : CommandUnit :=
        { s.command with walk := some (.purge src pos), result := result }
      let freed : State := { s.removePending r.slot with command := at' q (s.command.result + 1) }
      (r.source ≠ src →
        exec (.purgeVisit .record) s = .next
          { s with command := at' { q with passed := q.passed + 1 } s.command.result }) ∧
      (r.source = src → src.val < 44 ∨ 60 ≤ src.val → exec (.purgeVisit .record) s = .next freed) ∧
      (r.source = src → 44 ≤ src.val → src.val < 60 → exec (.purgeVisit .record) s = .next freed.growGrant)) ∧
    ((s.queue p.queue).length ≤ p.passed → ∀ c : Sys2Proof.Class, c.val + 1 = p.queue.val →
      exec (.purgeVisit .nextQueue) s = .next
        { s with command := { s.command with walk := some (.purge src ⟨c, 0⟩) } })) ∧
  (∀ (s : State) (src : Source) (p : QueuePos), s.inReset = false → s.command.walk = some (.purge src p) →
    s.nextVisit p = none →
    let ended : State := { s with command := { s.command with status := .done, walk := none } }
    (32 ≤ src.val → exec .purgeEnd s = .next ended) ∧
    (∀ n, lineOf src = some n →
      exec .purgeEnd s = .next
        (if s.lineActive n = true ∧ s.outstanding src = 0 then (ended.resolve (ended.lineArrival n)).1 else ended)))

/-- AGENT_RESET while IDLE (R81): refused BAD_AGENT, or the agent is DRAINING, in no declined set, its withdrawn list
empty, and the walk is in flight.
AGENT_RESET_TAKE (R82): the top record goes to the head of its queue, abandoned, its returns raised.
AGENT_RESET_END (R83), when the stack is empty: OFF, DONE, the result kept. -/
def Obligations.AgentResetWalk : Prop :=
  (∀ (s : State) (page : Agent) (operand : Byte), s.inReset = false → s.walking = false →
    (4 ≤ operand.toNat →
      exec (.agentReset page operand) s = .next (commandEnds s page 7 operand .refused .badAgent 0)) ∧
    (∀ a : Agent, a.val = operand.toNat →
      let u (r : EventRecord) : EventRecord := { r with declined := r.declined &&& ~~~((1 : BitVec 4) <<< a.val) }
      ∃ t, exec (.agentReset page operand) s = .next t ∧
        t = { walkBegins s page 7 operand 0 (.agentReset a) with
          dispatcher := { s.dispatcher with queues := t.dispatcher.queues }
          ports := t.ports
          transmitter := { s.transmitter with queue := t.transmitter.queue } } ∧
        (∀ c, t.queue c = (s.queue c).map u) ∧
        t.transmitter.queue = s.transmitter.queue.map (fun f => { f with record := u f.record }) ∧
        t.port a =
          { s.port a with
            state := .draining, tickDue := false, withdrawn := [], stack := (s.port a).stack.map u } ∧
        (∀ b, b ≠ a → t.port b = { s.port b with stack := (s.port b).stack.map u }) ∧
        t.notify a = false ∧ t.wakeCause a = false ∧ (t.port a).timerRunning = false)) ∧
  (∀ (s : State) (a : Agent) (r : EventRecord) (rest : List EventRecord), s.inReset = false →
    s.command.walk = some (.agentReset a) → (s.port a).stack = r :: rest →
    let s1 := s.setPort a { s.port a with stack := rest }
    let back : EventRecord := { r with remaining := none, abandoned := true, returns := satFin r.returns }
    let done (t : State) :=
      exec .agentResetTake s = .next { t with command := { t.command with result := t.command.result + 1 } }
    (r.source.val < 60 → done (s1.insertHead back)) ∧
    (∀ i, internalOf r.source = some i →
      (if (s.internal i).raisedAgain then
        done ((s1.setInternal i { s.internal i with raisedAgain := false }).insertHead
          { back with count := satByte r.count, payload := .two (s.internal i).latest0 (s.internal i).latest1 })
      else done (s1.insertHead back)))) ∧
  (∀ (s : State) (a : Agent), s.inReset = false → s.command.walk = some (.agentReset a) → (s.port a).stack = [] →
    exec .agentResetEnd s = .next
      { s.setPort a { s.port a with state := .off } with
        command := { s.command with status := .done, walk := none } })

/-- CLEAR while IDLE (R192, R18, R85, R131): the seven items.
CLEAR_VISIT (R193): the next pending record is freed without notices and counted.
CLEAR_END (R195), when the walk has no record left: arrivals are no longer discarded, the active level lines without
a record are re-armed in a free order (log 6), DONE. -/
def Obligations.ClearWalk : Prop :=
  (∀ (s : State) (page : Agent) (operand : Byte), s.inReset = false → s.walking = false →
    exec (.clear page operand) s = .next
      { walkBegins s page 8 operand (BitVec.ofNat 16 (s.stackedRecords.length + s.forwardRecords.length))
          (.clear ⟨15, 0⟩) with
        link := { s.link with state := .stopped, attempts := 0, timer := .stopped }
        pair :=
          { s.pair with
            helloDue := false, helloAckDue := false, nakDue := false, ackDue := false, crdDue := false
            sending := s.pair.sending.map fun x => { x with live := false } }
        transmitter := { s.transmitter with queue := [], retry := 0, timer := .stopped, mark := none }
        ports := s.ports.map fun p =>
          { p with
            stack := [], tickDue := false, withdrawn := []
            state := if p.state = .draining then .off else p.state }
        internals := Vector.replicate 4 { raisedAgain := false, latest0 := 0, latest1 := 0 }
        pool := { s.pool with overflow := Vector.replicate 64 0 }
        faults := { flags := 0, crcErrors := 0, linkLost := 0 }
        table := { s.table with session := if s.table.session = .opened then .closed else s.table.session } }) ∧
  (∀ (s : State) (p : QueuePos), s.inReset = false → s.command.walk = some (.clear p) →
    (∀ q r, s.nextVisit p = some (q, r) →
      exec (.clearVisit .record) s = .next
        { s.removePending r.slot with
          command := { s.command with walk := some (.clear q), result := s.command.result + 1 } }) ∧
    ((s.queue p.queue).length ≤ p.passed → ∀ c : Sys2Proof.Class, c.val + 1 = p.queue.val →
      exec (.clearVisit .nextQueue) s = .next
        { s with command := { s.command with walk := some (.clear ⟨c, 0⟩) } })) ∧
  (∀ (s : State) (p : QueuePos), s.inReset = false → s.command.walk = some (.clear p) → s.nextVisit p = none →
    let ended : State := { s with command := { s.command with status := .done, walk := none } }
    (∃ t, exec .clearEnd s = .next t ∧ t.command = ended.command ∧ t.clearing = false ∧ t.link = s.link ∧
      t.ports = s.ports ∧ t.table = s.table) ∧
    ((∀ n, s.lineActive n = false ∨ s.outstanding (lineSource n) ≠ 0) → exec .clearEnd s = .next ended) ∧
    (∀ n, (∀ m, m ≠ n → s.lineActive m = false ∨ s.outstanding (lineSource m) ≠ 0) → s.lineActive n = true →
      s.outstanding (lineSource n) = 0 → exec .clearEnd s = .next (ended.resolve (ended.lineArrival n)).1) ∧
    (let rearmed : List Line := (List.finRange 32).filter fun n =>
       ended.lineActive n && ended.outstanding (lineSource n) == 0
     ∃ order : List FollowUp, order.Perm (rearmed.map .rearm) ∧ ∃ n,
      exec .clearEnd s = .next (order.foldl (fun t f => followUp f t) { ended with choices := n })))

/-! ## Event Link: session -/

/-- LINK_START while IDLE (R150): a new session number, HELLO_SENT, a HELLO due; refused ALREADY in a handshake or
session.
LINK_STOP while IDLE (R149, R161): STOPPED, timers stopped, nothing due, sent records queued again in place. A HELLO
being sent is sent to its end and no longer counts (log 10). -/
def Obligations.LinkStartAndStop : Prop :=
  (∀ (s : State) (page : Agent) (operand : Byte), s.inReset = false → s.walking = false →
    (s.link.state = .stopped ∨ s.link.state = .down →
      exec (.linkStart page operand) s = .next
        (commandEnds
          { s with
            link := { s.link with state := .helloSent, session := s.link.session + 1, attempts := 0 }
            pair := { s.pair with helloDue := true } }
          page 9 operand .done .noReason ((s.link.session + 1).setWidth 16))) ∧
    (s.link.state = .helloSent ∨ s.link.state = .up →
      exec (.linkStart page operand) s = .next (commandEnds s page 9 operand .refused .already 0))) ∧
  (∀ (s : State) (page : Agent) (operand : Byte), s.inReset = false → s.walking = false →
    exec (.linkStop page operand) s = .next
      (commandEnds
        { s with
          link := { s.link with state := .stopped, attempts := 0, timer := .stopped }
          pair :=
            { s.pair with
              helloDue := false, helloAckDue := false, nakDue := false, ackDue := false, crdDue := false
              sending := s.pair.sending.map fun x => { x with live := false } }
          transmitter :=
            { s.transmitter with
              queue := s.transmitter.queue.map fun f => { f with linkSeq := none }
              retry := 0, timer := .stopped, mark := none } }
        page 10 operand .done .noReason 0))

/-- HELLO_TAKEN (R152, R155): in HELLO_SENT a HELLO_ACK becomes due; in UP it is a peer restart; elsewhere ignored.
HELLO_ACK_TAKEN (R152, R153, R154, R175): the matching one in HELLO_SENT brings the link UP; any other is ignored. -/
def Obligations.HandshakeFramesTaken : Prop :=
  (∀ (s : State) (session grant : Byte), s.inReset = false → s.receiver.logic = .hunt →
    (s.link.state = .stopped ∨ s.link.state = .down → exec (.helloTaken session grant) s = .next s) ∧
    (s.link.state = .helloSent →
      exec (.helloTaken session grant) s = .next
        { s with
          link := { s.link with peerGrant := grant }
          pair := { s.pair with helloAckDue := true, answerSession := session } }) ∧
    (s.link.state = .up →
      let s1 : State :=
        { s with
          link := { s.link with peerGrant := grant }
          pair :=
            { s.pair with
              helloAckDue := true, nakDue := false, ackDue := false, crdDue := false, answerSession := session }
          transmitter :=
            { s.transmitter with
              queue := s.transmitter.queue.map fun f => { f with linkSeq := none }
              sendSeq := 0, firstSends := 0, retry := 0, timer := .stopped, mark := none }
          receiver := { s.receiver with expected := 0, nakFlag := false } }
      exec (.helloTaken session grant) s = .next
        ((s1.setFault .peerRestart).raise 2 3 (s.link.session.setWidth 16)))) ∧
  (∀ (s : State) (session grant : Byte), s.inReset = false → s.receiver.logic = .hunt →
    (s.link.state = .helloSent → session = s.link.session →
      exec (.helloAckTaken session grant) s = .next
        { s with
          link := { s.link with state := .up, timer := .stopped, peerGrant := grant }
          pair :=
            { s.pair with
              helloDue := false
              crdDue := s.pair.crdDue || s.receiver.carried != s.receiver.gOut
              sending := s.pair.sending.map fun x => { x with live := false } }
          transmitter :=
            { s.transmitter with sendSeq := 0, firstSends := 0, retry := 0, timer := .stopped, mark := none }
          receiver := { s.receiver with expected := 0, nakFlag := false } }) ∧
    (s.link.state ≠ .helloSent ∨ session ≠ s.link.session → exec (.helloAckTaken session grant) s = .next s))

/-- HELLO_INTERVAL_EXPIRY (R151, R156): another HELLO below eight attempts, else DOWN with cause HELLO_TIMEOUT.
ACK_TIMER_EXPIRY (R168): the retry count rises; not above LINK_RETRIES, every sent record is to be sent again, and an EVT
frame still being sent loads no timer at its end (R165); above it, the link enters DOWN with cause RETRIES_EXHAUSTED. -/
def Obligations.LinkTimerExpiries : Prop :=
  (∀ s : State, s.inReset = false → s.link.state = .helloSent → s.link.timer = .expiring →
    (s.link.attempts.val < 8 →
      exec .helloIntervalExpiry s = .next
        { s with link := { s.link with timer := .stopped }, pair := { s.pair with helloDue := true } }) ∧
    (s.link.attempts = 8 → exec .helloIntervalExpiry s = .next (s.enterDown .helloTimeout))) ∧
  (∀ s : State, s.inReset = false → s.link.state = .up → s.transmitter.timer = .expiring →
    let t := s.transmitter
    let retry := satFin t.retry
    (retry.val ≤ s.params.retries.toNat → 0 < t.sent → ∀ oldest, t.queue.findSome? (·.linkSeq) = some oldest →
      exec .ackTimerExpiry s = .next
        { s with
          transmitter := { t with retry := retry, timer := .stopped, mark := some oldest }
          pair := { s.pair with sending := s.pair.sending.map fun x => { x with live := false } } }) ∧
    (s.params.retries.toNat < retry.val →
      exec .ackTimerExpiry s = .next
        (State.enterDown { s with transmitter := { t with retry := retry, timer := .stopped } } .retriesExhausted)))

/-- Entry into DOWN (R156, R176, R139): what it leaves for any Forward Queue, and its whole effect for an empty one and
for one record with a fallback.
Its whole effect for a Forward Queue of any length: each record with a fallback goes, oldest first, to the tail of its
class queue, the fallback its retarget; each without one is freed and counted, saturating at 255. Then LINK is raised and
the active level lines left without a record by a lost one are re-armed (R11, R24), in a free order (log 6). A frame being
sent is sent to its end and acts on no timer (log 10). -/
def Obligations.EntryIntoDown : Prop :=
  ∀ (s : State) (cause : DownCause),
    let t := s.enterDown cause
    let pair : TransmitPair :=
      { s.pair with
        helloDue := false, helloAckDue := false, nakDue := false, ackDue := false, crdDue := false
        sending := s.pair.sending.map fun x => { x with live := false } }
    let s1 : State :=
      { s with
        link := { s.link with state := .down, timer := .stopped, downCause := cause }
        pair := pair
        transmitter := { s.transmitter with queue := [], timer := .stopped, mark := none } }
    (t.link = s1.link ∧ t.pair = pair ∧ t.transmitter = s1.transmitter ∧ t.faultSet .linkDown = true ∧
      t.ports = s.ports ∧ t.receiver = s.receiver ∧ t.table = s.table) ∧
    (s.transmitter.queue = [] → t = (s1.setFault .linkDown).raise 2 (BitVec.ofNat 16 cause.code) (s.link.session.setWidth 16)) ∧
    (∀ r b linkSeq, s.transmitter.queue = [⟨r, linkSeq⟩] → r.snap.fallback = some b → r.declined = 0 →
      t = ((s1.setFault .linkDown).insertTail { r with retarget := some b }).raise 2 (BitVec.ofNat 16 cause.code)
        (s.link.session.setWidth 16)) ∧
    (∀ r linkSeq, s.transmitter.queue = [⟨r, linkSeq⟩] → r.snap.fallback = none → 32 ≤ r.source.val →
      t = State.raise
        { s1.setFault .linkDown with
          faults := { (s1.setFault .linkDown).faults with linkLost := satByte s.faults.linkLost } }
        2 (BitVec.ofNat 16 cause.code) (s.link.session.setWidth 16)) ∧
    (let diverted : List EventRecord := s.transmitter.queue.filterMap fun f =>
       match f.record.snap.fallback with
       | some b =>
         some
           { f.record with
             retarget := some b
             declined := if f.record.declined.getLsbD b.val then 0 else f.record.declined }
       | none => none
     let lost : List Forwarded := s.transmitter.queue.filter fun f => f.record.snap.fallback.isNone
     let s2 : State :=
      { s1.setFault .linkDown with
        dispatcher :=
          { s.dispatcher with
            queues := Vector.ofFn fun c : Sys2Proof.Class => s.queue c ++ diverted.filter fun r => r.cls == c }
        faults :=
          { (s1.setFault .linkDown).faults with
            linkLost := BitVec.ofNat 8 (min 255 (s.faults.linkLost.toNat + lost.length)) } }
     let rearmed : List Line := (List.finRange 32).filter fun n =>
       lost.any (fun f => f.record.source == lineSource n) && s2.outstanding (lineSource n) == 0 &&
         !s2.underPurge (lineSource n) && s2.lineActive n
     ∃ order : List FollowUp,
       order.Perm (rearmed.map .rearm ++ [.raise 2 (BitVec.ofNat 16 cause.code) (s.link.session.setWidth 16)]) ∧
       ∃ n, t = order.foldl (fun t f => followUp f t) { s2 with choices := n })

/-! ## Event Link: sending -/

/-- The arbiter (R147): the highest due request, HELLO first and EVT last; an EVT is due as R163 says.
HELLO_SEND, HELLO_ACK_SEND, ACK_SEND, NAK_SEND, CRD_SEND (R146, R147, R170): the request is no longer due, the frame
carries the values of this moment, and the carried grant is G_out, which a HELLO or HELLO_ACK first sets. -/
def Obligations.ArbiterAndControlFrames : Prop :=
  (∀ s : State,
    s.nextRequest =
      (if s.pair.helloDue then some .hello else if s.pair.helloAckDue then some .helloAck
       else if s.pair.nakDue then some .nak else if s.pair.ackDue then some .ack
       else if s.pair.crdDue then some .crd
       else if s.evtDue then some .evt else none) ∧
    (s.evtDue = true ↔ s.link.state = .up ∧
      (s.transmitter.mark.isSome = true ∨
        (s.transmitter.mark = none ∧ (∃ f ∈ s.transmitter.queue, f.linkSeq = none) ∧ s.transmitter.sent < 4 ∧
          0 < (s.link.peerGrant - s.transmitter.firstSends).toNat ∧
          (s.link.peerGrant - s.transmitter.firstSends).toNat ≤ 16)))) ∧
  (∀ s : State, s.inReset = false → s.pair.free = true →
    let opening : Byte := BitVec.ofNat 8 (s.pool.linkReserve.toNat - s.heldCount .linkReserve)
    let g := s.receiver.gOut
    (s.nextRequest = some .hello →
      exec .helloSend s = .next
        { s with
          receiver := { s.receiver with gOut := opening, carried := opening }
          pair :=
            { s.pair with helloDue := false, sending := some ⟨.hello s.link.session opening, true⟩ } }) ∧
    (s.nextRequest = some .helloAck →
      exec .helloAckSend s = .next
        { s with
          receiver := { s.receiver with gOut := opening, carried := opening }
          pair :=
            { s.pair with
              helloAckDue := false, sending := some ⟨.helloAck s.pair.answerSession opening, false⟩ } }) ∧
    (s.nextRequest = some .ack →
      exec .ackSend s = .next
        { s with
          receiver := { s.receiver with carried := g }
          pair := { s.pair with ackDue := false, sending := some ⟨.ack s.receiver.expected g, false⟩ } }) ∧
    (s.nextRequest = some .nak →
      exec .nakSend s = .next
        { s with
          receiver := { s.receiver with carried := g }
          pair := { s.pair with nakDue := false, sending := some ⟨.nak s.receiver.expected g, false⟩ } }) ∧
    (s.nextRequest = some .crd →
      exec .crdSend s = .next
        { s with
          receiver := { s.receiver with carried := g }
          pair := { s.pair with crdDue := false, sending := some ⟨.crd g, false⟩ } }))

/-- FIRST_SEND (R163): the oldest queued record becomes sent under the send seq, which rises with S; its frame is begun.
The pair is idle (`pair.free`) also after a HELLO_ACK, ACK, NAK or CRD was begun, whose end no row names (log 9).
RETRANSMISSION (R164): the sent record the mark names is sent again; the mark rises, and is absent at the send seq;
the send seq and S stay.
HELLO_SEND_END and EVT_SEND_END (R151, R165): the HELLO interval timer is loaded; the ACK timer is loaded when it is
STOPPED and a record is still sent, but not at the end of a frame begun before the NAK or expiry that stopped it
(`live` false): the timer is STOPPED until the end of the first frame resent after that (R165, R168). A HELLO whose
handshake is over (`live` false) counts no attempt and loads no timer at its end (log 10). -/
def Obligations.EventFrameSends : Prop :=
  (∀ (s : State) (front back : List Forwarded) (r : EventRecord) (channel : BitVec 4), s.inReset = false →
    s.pair.free = true → s.nextRequest = some .evt → s.transmitter.mark = none →
    s.transmitter.queue = front ++ ⟨r, none⟩ :: back → (∀ f ∈ front, f.linkSeq ≠ none) →
    r.snap.targets = .link channel →
    let t := s.transmitter
    exec .firstSend s = .next
      { s with
        transmitter :=
          { t with
            queue := front ++ ⟨r, some t.sendSeq⟩ :: back
            sendSeq := t.sendSeq + 1, firstSends := t.firstSends + 1 }
        pair := { s.pair with sending := some ⟨.evt t.sendSeq channel r.count r.payload, true⟩ } }) ∧
  (∀ (s : State) (m : Byte) (r : EventRecord) (channel : BitVec 4), s.inReset = false →
    s.pair.free = true → s.nextRequest = some .evt → s.transmitter.mark = some m →
    s.transmitter.queue.find? (fun f => f.linkSeq == some m) = some ⟨r, some m⟩ → r.snap.targets = .link channel →
    exec .retransmission s = .next
      { s with
        transmitter :=
          { s.transmitter with mark := if m + 1 = s.transmitter.sendSeq then none else some (m + 1) }
        pair := { s.pair with sending := some ⟨.evt m channel r.count r.payload, true⟩ } }) ∧
  (∀ s : State, s.inReset = false →
    (∀ session grant, s.pair.sending = some ⟨.hello session grant, true⟩ →
      exec .helloSendEnd s = .next
        { s with
          pair := { s.pair with sending := none }
          link := { s.link with attempts := satFin s.link.attempts, timer := .running s.params.timeout } }) ∧
    (∀ session grant, s.pair.sending = some ⟨.hello session grant, false⟩ →
      exec .helloSendEnd s = .next { s with pair := { s.pair with sending := none } }) ∧
    (∀ seq channel count payload live, s.pair.sending = some ⟨.evt seq channel count payload, live⟩ →
      let s1 : State := { s with pair := { s.pair with sending := none } }
      (live = true → s.transmitter.timer = .stopped → 0 < s.transmitter.sent →
        exec .evtSendEnd s = .next
          { s1 with transmitter := { s.transmitter with timer := .running s.params.timeout } }) ∧
      (live = false ∨ s.transmitter.timer ≠ .stopped ∨ s.transmitter.sent = 0 → exec .evtSendEnd s = .next s1)))

/-! ## Event Link: acknowledgement -/

/-- ACK_TAKEN and NAK_TAKEN in UP (R162, R164, R166, R167), with k the distance of the next expected seq from the oldest
sent seq. The level-line re-arms that the freed records set off follow (R11), in a free order (log 6). At a NAK that
starts a resend, an EVT frame still being sent loads no timer at its end (R165). An ACK that leaves sent records loads the
timer also between a NAK or an expiry and the end of the first frame resent after it: R166 followed against R165, the
model's inference (log 31). -/
def Obligations.AckAndNakResults : Prop :=
  ∀ (s : State) (next grant : Byte), s.inReset = false → s.receiver.logic = .hunt → s.link.state = .up →
    let t := s.transmitter
    let oldest : Byte := (t.queue.findSome? (·.linkSeq)).getD t.sendSeq
    let k := (next - oldest).toNat
    let granted : State := { s with link := { s.link with peerGrant := grant } }
    let kept := t.queue.drop k
    let left := kept.countP (·.linkSeq.isSome)
    let newOldest : Byte := (kept.findSome? (·.linkSeq)).getD t.sendSeq
    let mark := match t.mark with
      | none => none
      | some m => if kept.any (·.linkSeq == some m) then some m else if left = 0 then none else some newOldest
    let timer : LinkTimer := if left = 0 then .stopped else .running s.params.timeout
    let rearms (x : State) := x.followUps (x.lineNotices ((t.queue.take k).map fun f => f.record.source))
    (k = 0 ∨ t.sent < k → exec (.ackTaken next grant) s = .next granted) ∧
    (1 ≤ k → k ≤ t.sent →
      exec (.ackTaken next grant) s = .next
        (rearms
          { granted with transmitter := { t with queue := kept, retry := 0, mark := mark, timer := timer } })) ∧
    (t.sent < k → exec (.nakTaken next grant) s = .next granted) ∧
    (k = 0 → t.sent = 0 → exec (.nakTaken next grant) s = .next granted) ∧
    (k ≤ t.sent → 0 < left →
      exec (.nakTaken next grant) s = .next
        (rearms
          { granted with
            transmitter :=
              { t with queue := kept, retry := satFin t.retry, mark := some next, timer := .stopped }
            pair := { s.pair with sending := s.pair.sending.map fun x => { x with live := false } } })) ∧
    (1 ≤ k → k ≤ t.sent → left = 0 →
      exec (.nakTaken next grant) s = .next
        (rearms { granted with transmitter := { t with queue := kept, mark := mark, timer := timer } }))

/-- CRD_TAKEN in UP (R162), and frames that the link state does not take (R146, R149, R152, R156): ignored. -/
def Obligations.CreditTakenAndFramesIgnored : Prop :=
  ∀ (s : State) (seq grant : Byte), s.inReset = false → s.receiver.logic = .hunt →
    (s.link.state = .up →
      exec (.crdTaken grant) s = .next { s with link := { s.link with peerGrant := grant } }) ∧
    (s.link.state ≠ .up →
      exec (.crdTaken grant) s = .next s ∧ exec (.ackTaken seq grant) s = .next s ∧
      exec (.nakTaken seq grant) s = .next s ∧
      ∀ channel count payload, exec (.evtTaken seq channel count payload) s = .next s) ∧
    s.credit =
      (if (s.link.peerGrant - s.transmitter.firstSends).toNat ≤ 16 then
        (s.link.peerGrant - s.transmitter.firstSends).toNat else 0)

/-! ## Event Link: receiving -/

/-- EVT_TAKEN in UP (R172, R171, R173, R174, R32): in order with a free slot, the arrival, the next expected seq and an
ACK; in order with none, a credit overrun; a duplicate; a gap.
The growth of the grant (R171, R175). -/
def Obligations.EventFramesTaken : Prop :=
  (∀ (s : State) (seq : Byte) (channel : Fin 16) (count : Byte) (payload : Payload), s.inReset = false →
    s.receiver.logic = .hunt → s.link.state = .up →
    let free := s.heldCount .linkReserve < s.pool.linkReserve.toNat
    let after := s.resolve ⟨⟨44 + channel.val, by omega⟩, payload, count⟩
    let d := (s.receiver.expected - seq).toNat
    let done (t : State) := exec (.evtTaken seq channel count payload) s = .next t
    (seq = s.receiver.expected → free → after.2.takesSlot = true →
      done
        { after.1 with
          receiver := { s.receiver with expected := s.receiver.expected + 1, nakFlag := false }
          pair := { s.pair with ackDue := true } }) ∧
    (seq = s.receiver.expected → free → after.2.takesSlot = false →
      ∃ t, done t ∧
        t = { after.1 with
          receiver :=
            { s.receiver with
              expected := s.receiver.expected + 1, nakFlag := false, gOut := s.receiver.gOut + 1 }
          pair := { s.pair with ackDue := true, crdDue := t.pair.crdDue }
          choices := t.choices } ∧
        (s.pair.ackDue = true ∨ s.pair.nakDue = true ∨ s.pair.crdDue = true → t.pair.crdDue = s.pair.crdDue)) ∧
    (seq = s.receiver.expected → ¬free →
      done ((s.setFault .creditOverrun).raise 2 4 (s.link.session.setWidth 16))) ∧
    (1 ≤ d → d ≤ 4 → done { s with pair := { s.pair with ackDue := true } }) ∧
    (4 < d → s.receiver.nakFlag = true → done s) ∧
    (4 < d → s.receiver.nakFlag = false →
      done
        { s with pair := { s.pair with nakDue := true }, receiver := { s.receiver with nakFlag := true } })) ∧
  (∀ s : State,
    let due := s.link.state = .up ∧ s.pair.ackDue = false ∧ s.pair.nakDue = false ∧ s.pair.crdDue = false
    let s1 : State := { s with receiver := { s.receiver with gOut := s.receiver.gOut + 1 } }
    (due → s.growGrant = { s1 with pair := { s.pair with crdDue := true } }) ∧ (¬due → s.growGrant = s1))

/-- BYTE_RECEIVED, state by state (R145), and FRAME_DISCARDED of the same byte where it discards the frame. The second CRC
byte of a good frame hands the frame on, with the frame's effect (R145, R146; log 15).
FRAME_DISCARDED (R138, R142, R145): damage after SYNC discards the frame, counts it and sets CRC; damage while
hunting changes nothing. -/
def Obligations.ReceivedBytes : Prop :=
  (∀ (s : State) (b : Byte), s.inReset = false →
    let goes (l : FrameLogic) := exec (.byteReceived b) s = .next { s with receiver := { s.receiver with logic := l } }
    let lost : State :=
      { s with
        faults := { (s.setFault .crc).faults with crcErrors := satByte s.faults.crcErrors }
        receiver := { s.receiver with logic := .hunt } }
    let discarded := exec (.byteReceived b) s = .next lost ∧ exec (.frameDiscarded (.byte b)) s = .next lost
    let kind := b = 0x11 ∨ b = 0x12 ∨ b = 0x21 ∨ b = 0x31 ∨ b = 0x32 ∨ b = 0x33
    (s.receiver.logic = .hunt → b = 0xB4 → goes .kind) ∧
    (s.receiver.logic = .hunt → b ≠ 0xB4 → goes .hunt) ∧
    (s.receiver.logic = .kind → kind → goes (.body [b])) ∧
    (s.receiver.logic = .kind → ¬kind → discarded) ∧
    (∀ k, (k = 0x11 ∨ k = 0x12 ∨ k = 0x31 ∨ k = 0x32) → s.receiver.logic = .body [k] → goes (.body [k, b])) ∧
    (∀ k x, (k = 0x11 ∨ k = 0x12 ∨ k = 0x31 ∨ k = 0x32) → s.receiver.logic = .body [k, x] →
      goes (.check [k, x, b] none)) ∧
    (s.receiver.logic = .body [0x33] → goes (.check [0x33, b] none)) ∧
    (∀ held, held.length < 3 → s.receiver.logic = .body (0x21 :: held) → goes (.body (0x21 :: held ++ [b]))) ∧
    (∀ x y z, s.receiver.logic = .body [0x21, x, y, z] →
      (b = 0 → goes (.check [0x21, x, y, z, b] none)) ∧ (b = 1 ∨ b = 2 → goes (.body [0x21, x, y, z, b])) ∧
      (2 < b.toNat → discarded)) ∧
    (∀ x y z n words, s.receiver.logic = .body (0x21 :: x :: y :: z :: n :: words) →
      let held := 0x21 :: x :: y :: z :: n :: words ++ [b]
      (words.length + 1 = 2 * n.toNat → goes (.check held none)) ∧
      (words.length + 1 < 2 * n.toNat → goes (.body held))) ∧
    (∀ held, s.receiver.logic = .check held none → goes (.check held (some b))) ∧
    (∀ held low, s.receiver.logic = .check held (some low) → b ++ low ≠ crc held → discarded) ∧
    (∀ f : Frame, s.receiver.logic = .check f.covered (some ((crc f.covered).extractLsb' 0 8)) →
      b = (crc f.covered).extractLsb' 8 8 → exec (.byteReceived b) s = .next (s.takeFrame f)) ∧
    (∀ x y z n words low, s.receiver.logic = .check (0x21 :: x :: y :: z :: n :: words) (some low) → 15 < y.toNat →
      discarded)) ∧
  (∀ (s : State) (d : Damage), s.inReset = false → d = .framingError ∨ d = .truncation →
    (s.receiver.logic ≠ .hunt →
      exec (.frameDiscarded d) s = .next
        { s with
          faults := { (s.setFault .crc).faults with crcErrors := satByte s.faults.crcErrors }
          receiver := { s.receiver with logic := .hunt } }) ∧
    (s.receiver.logic = .hunt → exec (.frameDiscarded d) s = .next s))

/-- The CRC (R144), shift by shift, its check value, and the order of its two bytes; the bytes it covers, for each of the
six kinds: the KIND code and the body in the order of R201, words low byte first (R201, R202). -/
def Obligations.CrcDefinition : Prop :=
  let shift (r : Word) : Word := if r.getLsbD 15 then (r <<< 1) ^^^ 0x1021 else r <<< 1
  crc [] = 0xFFFF ∧
  (∀ (bytes : List Byte) (b : Byte),
    crc (bytes ++ [b]) = shift (shift (shift (shift (shift (shift (shift (shift
      (crc bytes ^^^ (b.setWidth 16 <<< 8)))))))))) ∧
  crc [0x31, 0x32, 0x33, 0x34, 0x35, 0x36, 0x37, 0x38, 0x39] = 0x29B1 ∧
  (∀ f : Frame,
    f.bytes =
      [0xB4] ++ f.covered ++ [(crc f.covered).extractLsb' 0 8, (crc f.covered).extractLsb' 8 8]) ∧
  ∀ (x y : Byte) (channel : BitVec 4) (w v : Word),
    (Frame.hello x y).covered = [0x11, x, y] ∧ (Frame.helloAck x y).covered = [0x12, x, y] ∧
    (Frame.ack x y).covered = [0x31, x, y] ∧ (Frame.nak x y).covered = [0x32, x, y] ∧
    (Frame.crd x).covered = [0x33, x] ∧
    (Frame.evt x channel y .absent).covered = [0x21, x, channel.setWidth 8, y, 0] ∧
    (Frame.evt x channel y (.one w)).covered =
      [0x21, x, channel.setWidth 8, y, 1, w.extractLsb' 0 8, w.extractLsb' 8 8] ∧
    (Frame.evt x channel y (.two w v)).covered =
      [0x21, x, channel.setWidth 8, y, 2, w.extractLsb' 0 8, w.extractLsb' 8 8, v.extractLsb' 0 8, v.extractLsb' 8 8]

/-- The bytes of every frame, received one after another in HUNT, hand on exactly that frame (R143, R145, R201, R202).
The same frame taken as one event: that each of the six *_TAKEN commands, coming in HUNT, stands for the receipt of its
whole frame is the model's choice (log 16). -/
def Obligations.FramesReceivedAsSent : Prop :=
  (∀ (f : Frame) (s : State), s.inReset = false → s.receiver.logic = .hunt →
    (∀ b, exec (.byteReceived b) s = .next (s.receiveByte b)) ∧
    f.bytes.foldl State.receiveByte s = s.takeFrame f) ∧
  (∀ (s : State) (x y : Byte) (channel : Fin 16) (count : Byte) (payload : Payload), s.inReset = false →
    s.receiver.logic = .hunt →
    exec (.helloTaken x y) s = .next (s.takeFrame (.hello x y)) ∧
    exec (.helloAckTaken x y) s = .next (s.takeFrame (.helloAck x y)) ∧
    exec (.evtTaken x channel count payload) s = .next (s.takeFrame (.evt x (BitVec.ofFin channel) count payload)) ∧
    exec (.ackTaken x y) s = .next (s.takeFrame (.ack x y)) ∧
    exec (.nakTaken x y) s = .next (s.takeFrame (.nak x y)) ∧
    exec (.crdTaken y) s = .next (s.takeFrame (.crd y)))

/-! ## Invariants -/

/-- The safety properties hold after power-on reset. -/
def Obligations.ResetMeetsTheInvariants : Prop :=
  let s := State.reset
  SlotsDistinct s ∧ QueuesByClass s ∧ StacksOrdered s ∧ WithdrawnBounded s ∧ ForwardWindow s ∧ UnitConsistent s ∧
  PartitionsBounded s ∧ ActiveValid s ∧ OutstandingBounded s ∧ AsleepEmpty s ∧ RemainingInService s ∧ CountsPositive s ∧
  PairsDistinct s ∧ WithdrawnOffStack s ∧ ForwardLocal s ∧ StackPermitted s ∧ RaisedInService s

/-- R7, R10: no step puts two records into one slot. -/
def Obligations.StepKeepsSlotsDistinct : Prop :=
  ∀ s t, SlotsDistinct s → step s = .next t → SlotsDistinct t

/-- R39: every step keeps each record in the queue of its class. -/
def Obligations.StepKeepsQueuesByClass : Prop :=
  ∀ s t, SlotsDistinct s → QueuesByClass s → step s = .next t → QueuesByClass t

/-- R65, R58: every step keeps at most four records on a stack, their classes strictly increasing, each permitted to be
there, and the stack of an ASLEEP agent empty.
R71: every step keeps a withdrawn list at four pairs at most, with no duplicate, and while the pairs of allocated records
are distinct, with no pair of a record on the agent's own stack. -/
def Obligations.StepKeepsStacksAndWithdrawnLists : Prop :=
  (∀ s t, StacksOrdered s → StackPermitted s → AsleepEmpty s → step s = .next t →
    StacksOrdered t ∧ StackPermitted t ∧ AsleepEmpty t) ∧
  (∀ s t, WithdrawnBounded s → step s = .next t → WithdrawnBounded t) ∧
  (∀ s t, PairsDistinct s → WithdrawnOffStack s → step s = .next t → WithdrawnOffStack t)

/-- R158, R161, R164: every step keeps the Forward Queue's bound, window and order, and the resend mark on a sent
record; and, while every enabled active entry is valid (R113), the Forward Queue to forwarded records of line and posted
sources with a LINK route. -/
def Obligations.StepKeepsForwardWindow : Prop :=
  (∀ s t, ForwardWindow s → step s = .next t → ForwardWindow t) ∧
  (∀ s t, ActiveValid s → ForwardLocal s → step s = .next t → ForwardLocal t)

/-- R186, R115, R120, R81, R83, R123: every step keeps status, session, agent states and frozen flag consistent. -/
def Obligations.StepKeepsUnitConsistent : Prop :=
  ∀ s t, UnitConsistent s → step s = .next t → UnitConsistent t

/-- R9, R13: every step keeps each partition within its size.
R12, R113: every step keeps the enabled active entries valid and no source above 8 records. -/
def Obligations.StepKeepsCounts : Prop :=
  (∀ s t, SlotsDistinct s → PartitionsBounded s → step s = .next t → PartitionsBounded t) ∧
  (∀ s t, SlotsDistinct s → ActiveValid s → OutstandingBounded s → step s = .next t →
    ActiveValid t ∧ OutstandingBounded t)

/-- R1, R14: every step keeps the (source, seq) pairs of allocated records distinct. -/
def Obligations.StepKeepsPairsDistinct : Prop :=
  ∀ s t, SlotsDistinct s → PairsDistinct s → step s = .next t → PairsDistinct t

/-- R6, R77, R89: every step keeps remaining times to records in service, never 0, and counts at 1 or more.
R31: every step keeps a raised-again flag to a source whose record is in service, while each internal source has at most
one record (R10) and none of them is in the Forward Queue (R158). -/
def Obligations.StepKeepsRecordFields : Prop :=
  (∀ s t, RemainingInService s → CountsPositive s → step s = .next t → RemainingInService t ∧ CountsPositive t) ∧
  (∀ s t, PartitionsBounded s → ForwardLocal s → RaisedInService s → step s = .next t → RaisedInService t)
end

