-- ==== Sys2Proof/Laws/State.lean ====
section
/-!
SUPPORT. One lemma for each field of the state under each named update: what the field holds after it. All hold by
`rfl`, so that no later proof unfolds a record update.
-/
namespace Sys2Proof.Machine

/-! ### setPort -/

@[simp] theorem State.setPort_pending (s : State) (a : Agent) (p : Port) : (s.setPort a p).pending = s.pending := rfl
@[simp] theorem State.setPort_inReset (s : State) (a : Agent) (p : Port) : (s.setPort a p).inReset = s.inReset := rfl
@[simp] theorem State.setPort_dataOut (s : State) (a : Agent) (p : Port) : (s.setPort a p).dataOut = s.dataOut := rfl
@[simp] theorem State.setPort_timebase (s : State) (a : Agent) (p : Port) :
    (s.setPort a p).timebase = s.timebase := rfl
@[simp] theorem State.setPort_lines (s : State) (a : Agent) (p : Port) : (s.setPort a p).lines = s.lines := rfl
@[simp] theorem State.setPort_post (s : State) (a : Agent) (p : Port) : (s.setPort a p).post = s.post := rfl
@[simp] theorem State.setPort_internals (s : State) (a : Agent) (p : Port) :
    (s.setPort a p).internals = s.internals := rfl
@[simp] theorem State.setPort_table (s : State) (a : Agent) (p : Port) : (s.setPort a p).table = s.table := rfl
@[simp] theorem State.setPort_pool (s : State) (a : Agent) (p : Port) : (s.setPort a p).pool = s.pool := rfl
@[simp] theorem State.setPort_dispatcher (s : State) (a : Agent) (p : Port) :
    (s.setPort a p).dispatcher = s.dispatcher := rfl
@[simp] theorem State.setPort_ports (s : State) (a : Agent) (p : Port) :
    (s.setPort a p).ports = s.ports.set a.val p a.isLt := rfl
@[simp] theorem State.setPort_faults (s : State) (a : Agent) (p : Port) : (s.setPort a p).faults = s.faults := rfl
@[simp] theorem State.setPort_params (s : State) (a : Agent) (p : Port) : (s.setPort a p).params = s.params := rfl
@[simp] theorem State.setPort_link (s : State) (a : Agent) (p : Port) : (s.setPort a p).link = s.link := rfl
@[simp] theorem State.setPort_pair (s : State) (a : Agent) (p : Port) : (s.setPort a p).pair = s.pair := rfl
@[simp] theorem State.setPort_transmitter (s : State) (a : Agent) (p : Port) :
    (s.setPort a p).transmitter = s.transmitter := rfl
@[simp] theorem State.setPort_receiver (s : State) (a : Agent) (p : Port) :
    (s.setPort a p).receiver = s.receiver := rfl
@[simp] theorem State.setPort_command (s : State) (a : Agent) (p : Port) : (s.setPort a p).command = s.command := rfl
@[simp] theorem State.setPort_choices (s : State) (a : Agent) (p : Port) : (s.setPort a p).choices = s.choices := rfl

/-! ### setLine -/

@[simp] theorem State.setLine_pending (s : State) (n : Line) (l : LineInput) :
    (s.setLine n l).pending = s.pending := rfl
@[simp] theorem State.setLine_inReset (s : State) (n : Line) (l : LineInput) :
    (s.setLine n l).inReset = s.inReset := rfl
@[simp] theorem State.setLine_dataOut (s : State) (n : Line) (l : LineInput) :
    (s.setLine n l).dataOut = s.dataOut := rfl
@[simp] theorem State.setLine_timebase (s : State) (n : Line) (l : LineInput) :
    (s.setLine n l).timebase = s.timebase := rfl
@[simp] theorem State.setLine_lines (s : State) (n : Line) (l : LineInput) :
    (s.setLine n l).lines = s.lines.set n.val l n.isLt := rfl
@[simp] theorem State.setLine_post (s : State) (n : Line) (l : LineInput) : (s.setLine n l).post = s.post := rfl
@[simp] theorem State.setLine_internals (s : State) (n : Line) (l : LineInput) :
    (s.setLine n l).internals = s.internals := rfl
@[simp] theorem State.setLine_table (s : State) (n : Line) (l : LineInput) : (s.setLine n l).table = s.table := rfl
@[simp] theorem State.setLine_pool (s : State) (n : Line) (l : LineInput) : (s.setLine n l).pool = s.pool := rfl
@[simp] theorem State.setLine_dispatcher (s : State) (n : Line) (l : LineInput) :
    (s.setLine n l).dispatcher = s.dispatcher := rfl
@[simp] theorem State.setLine_ports (s : State) (n : Line) (l : LineInput) : (s.setLine n l).ports = s.ports := rfl
@[simp] theorem State.setLine_faults (s : State) (n : Line) (l : LineInput) : (s.setLine n l).faults = s.faults := rfl
@[simp] theorem State.setLine_params (s : State) (n : Line) (l : LineInput) : (s.setLine n l).params = s.params := rfl
@[simp] theorem State.setLine_link (s : State) (n : Line) (l : LineInput) : (s.setLine n l).link = s.link := rfl
@[simp] theorem State.setLine_pair (s : State) (n : Line) (l : LineInput) : (s.setLine n l).pair = s.pair := rfl
@[simp] theorem State.setLine_transmitter (s : State) (n : Line) (l : LineInput) :
    (s.setLine n l).transmitter = s.transmitter := rfl
@[simp] theorem State.setLine_receiver (s : State) (n : Line) (l : LineInput) :
    (s.setLine n l).receiver = s.receiver := rfl
@[simp] theorem State.setLine_command (s : State) (n : Line) (l : LineInput) :
    (s.setLine n l).command = s.command := rfl
@[simp] theorem State.setLine_choices (s : State) (n : Line) (l : LineInput) :
    (s.setLine n l).choices = s.choices := rfl

/-! ### setInternal -/

@[simp] theorem State.setInternal_pending (s : State) (i : Fin 4) (x : InternalSource) :
    (s.setInternal i x).pending = s.pending := rfl
@[simp] theorem State.setInternal_inReset (s : State) (i : Fin 4) (x : InternalSource) :
    (s.setInternal i x).inReset = s.inReset := rfl
@[simp] theorem State.setInternal_dataOut (s : State) (i : Fin 4) (x : InternalSource) :
    (s.setInternal i x).dataOut = s.dataOut := rfl
@[simp] theorem State.setInternal_timebase (s : State) (i : Fin 4) (x : InternalSource) :
    (s.setInternal i x).timebase = s.timebase := rfl
@[simp] theorem State.setInternal_lines (s : State) (i : Fin 4) (x : InternalSource) :
    (s.setInternal i x).lines = s.lines := rfl
@[simp] theorem State.setInternal_post (s : State) (i : Fin 4) (x : InternalSource) :
    (s.setInternal i x).post = s.post := rfl
@[simp] theorem State.setInternal_internals (s : State) (i : Fin 4) (x : InternalSource) :
    (s.setInternal i x).internals = s.internals.set i.val x i.isLt := rfl
@[simp] theorem State.setInternal_table (s : State) (i : Fin 4) (x : InternalSource) :
    (s.setInternal i x).table = s.table := rfl
@[simp] theorem State.setInternal_pool (s : State) (i : Fin 4) (x : InternalSource) :
    (s.setInternal i x).pool = s.pool := rfl
@[simp] theorem State.setInternal_dispatcher (s : State) (i : Fin 4) (x : InternalSource) :
    (s.setInternal i x).dispatcher = s.dispatcher := rfl
@[simp] theorem State.setInternal_ports (s : State) (i : Fin 4) (x : InternalSource) :
    (s.setInternal i x).ports = s.ports := rfl
@[simp] theorem State.setInternal_faults (s : State) (i : Fin 4) (x : InternalSource) :
    (s.setInternal i x).faults = s.faults := rfl
@[simp] theorem State.setInternal_params (s : State) (i : Fin 4) (x : InternalSource) :
    (s.setInternal i x).params = s.params := rfl
@[simp] theorem State.setInternal_link (s : State) (i : Fin 4) (x : InternalSource) :
    (s.setInternal i x).link = s.link := rfl
@[simp] theorem State.setInternal_pair (s : State) (i : Fin 4) (x : InternalSource) :
    (s.setInternal i x).pair = s.pair := rfl
@[simp] theorem State.setInternal_transmitter (s : State) (i : Fin 4) (x : InternalSource) :
    (s.setInternal i x).transmitter = s.transmitter := rfl
@[simp] theorem State.setInternal_receiver (s : State) (i : Fin 4) (x : InternalSource) :
    (s.setInternal i x).receiver = s.receiver := rfl
@[simp] theorem State.setInternal_command (s : State) (i : Fin 4) (x : InternalSource) :
    (s.setInternal i x).command = s.command := rfl
@[simp] theorem State.setInternal_choices (s : State) (i : Fin 4) (x : InternalSource) :
    (s.setInternal i x).choices = s.choices := rfl

/-! ### setQueues -/

@[simp] theorem State.setQueues_pending (s : State) (qs : Vector (List EventRecord) 16) :
    (s.setQueues qs).pending = s.pending := rfl
@[simp] theorem State.setQueues_inReset (s : State) (qs : Vector (List EventRecord) 16) :
    (s.setQueues qs).inReset = s.inReset := rfl
@[simp] theorem State.setQueues_dataOut (s : State) (qs : Vector (List EventRecord) 16) :
    (s.setQueues qs).dataOut = s.dataOut := rfl
@[simp] theorem State.setQueues_timebase (s : State) (qs : Vector (List EventRecord) 16) :
    (s.setQueues qs).timebase = s.timebase := rfl
@[simp] theorem State.setQueues_lines (s : State) (qs : Vector (List EventRecord) 16) :
    (s.setQueues qs).lines = s.lines := rfl
@[simp] theorem State.setQueues_post (s : State) (qs : Vector (List EventRecord) 16) :
    (s.setQueues qs).post = s.post := rfl
@[simp] theorem State.setQueues_internals (s : State) (qs : Vector (List EventRecord) 16) :
    (s.setQueues qs).internals = s.internals := rfl
@[simp] theorem State.setQueues_table (s : State) (qs : Vector (List EventRecord) 16) :
    (s.setQueues qs).table = s.table := rfl
@[simp] theorem State.setQueues_pool (s : State) (qs : Vector (List EventRecord) 16) :
    (s.setQueues qs).pool = s.pool := rfl
@[simp] theorem State.setQueues_dispatcher (s : State) (qs : Vector (List EventRecord) 16) :
    (s.setQueues qs).dispatcher = { s.dispatcher with queues := qs } := rfl
@[simp] theorem State.setQueues_ports (s : State) (qs : Vector (List EventRecord) 16) :
    (s.setQueues qs).ports = s.ports := rfl
@[simp] theorem State.setQueues_faults (s : State) (qs : Vector (List EventRecord) 16) :
    (s.setQueues qs).faults = s.faults := rfl
@[simp] theorem State.setQueues_params (s : State) (qs : Vector (List EventRecord) 16) :
    (s.setQueues qs).params = s.params := rfl
@[simp] theorem State.setQueues_link (s : State) (qs : Vector (List EventRecord) 16) :
    (s.setQueues qs).link = s.link := rfl
@[simp] theorem State.setQueues_pair (s : State) (qs : Vector (List EventRecord) 16) :
    (s.setQueues qs).pair = s.pair := rfl
@[simp] theorem State.setQueues_transmitter (s : State) (qs : Vector (List EventRecord) 16) :
    (s.setQueues qs).transmitter = s.transmitter := rfl
@[simp] theorem State.setQueues_receiver (s : State) (qs : Vector (List EventRecord) 16) :
    (s.setQueues qs).receiver = s.receiver := rfl
@[simp] theorem State.setQueues_command (s : State) (qs : Vector (List EventRecord) 16) :
    (s.setQueues qs).command = s.command := rfl
@[simp] theorem State.setQueues_choices (s : State) (qs : Vector (List EventRecord) 16) :
    (s.setQueues qs).choices = s.choices := rfl

/-! ### setTransmitter -/

@[simp] theorem State.setTransmitter_pending (s : State) (t : Transmitter) :
    (s.setTransmitter t).pending = s.pending := rfl
@[simp] theorem State.setTransmitter_inReset (s : State) (t : Transmitter) :
    (s.setTransmitter t).inReset = s.inReset := rfl
@[simp] theorem State.setTransmitter_dataOut (s : State) (t : Transmitter) :
    (s.setTransmitter t).dataOut = s.dataOut := rfl
@[simp] theorem State.setTransmitter_timebase (s : State) (t : Transmitter) :
    (s.setTransmitter t).timebase = s.timebase := rfl
@[simp] theorem State.setTransmitter_lines (s : State) (t : Transmitter) : (s.setTransmitter t).lines = s.lines := rfl
@[simp] theorem State.setTransmitter_post (s : State) (t : Transmitter) : (s.setTransmitter t).post = s.post := rfl
@[simp] theorem State.setTransmitter_internals (s : State) (t : Transmitter) :
    (s.setTransmitter t).internals = s.internals := rfl
@[simp] theorem State.setTransmitter_table (s : State) (t : Transmitter) : (s.setTransmitter t).table = s.table := rfl
@[simp] theorem State.setTransmitter_pool (s : State) (t : Transmitter) : (s.setTransmitter t).pool = s.pool := rfl
@[simp] theorem State.setTransmitter_dispatcher (s : State) (t : Transmitter) :
    (s.setTransmitter t).dispatcher = s.dispatcher := rfl
@[simp] theorem State.setTransmitter_ports (s : State) (t : Transmitter) : (s.setTransmitter t).ports = s.ports := rfl
@[simp] theorem State.setTransmitter_faults (s : State) (t : Transmitter) :
    (s.setTransmitter t).faults = s.faults := rfl
@[simp] theorem State.setTransmitter_params (s : State) (t : Transmitter) :
    (s.setTransmitter t).params = s.params := rfl
@[simp] theorem State.setTransmitter_link (s : State) (t : Transmitter) : (s.setTransmitter t).link = s.link := rfl
@[simp] theorem State.setTransmitter_pair (s : State) (t : Transmitter) : (s.setTransmitter t).pair = s.pair := rfl
@[simp] theorem State.setTransmitter_transmitter (s : State) (t : Transmitter) :
    (s.setTransmitter t).transmitter = t := rfl
@[simp] theorem State.setTransmitter_receiver (s : State) (t : Transmitter) :
    (s.setTransmitter t).receiver = s.receiver := rfl
@[simp] theorem State.setTransmitter_command (s : State) (t : Transmitter) :
    (s.setTransmitter t).command = s.command := rfl
@[simp] theorem State.setTransmitter_choices (s : State) (t : Transmitter) :
    (s.setTransmitter t).choices = s.choices := rfl

/-! ### setFault -/

@[simp] theorem State.setFault_pending (s : State) (f : FaultFlag) : (s.setFault f).pending = s.pending := rfl
@[simp] theorem State.setFault_inReset (s : State) (f : FaultFlag) : (s.setFault f).inReset = s.inReset := rfl
@[simp] theorem State.setFault_dataOut (s : State) (f : FaultFlag) : (s.setFault f).dataOut = s.dataOut := rfl
@[simp] theorem State.setFault_timebase (s : State) (f : FaultFlag) : (s.setFault f).timebase = s.timebase := rfl
@[simp] theorem State.setFault_lines (s : State) (f : FaultFlag) : (s.setFault f).lines = s.lines := rfl
@[simp] theorem State.setFault_post (s : State) (f : FaultFlag) : (s.setFault f).post = s.post := rfl
@[simp] theorem State.setFault_internals (s : State) (f : FaultFlag) : (s.setFault f).internals = s.internals := rfl
@[simp] theorem State.setFault_table (s : State) (f : FaultFlag) : (s.setFault f).table = s.table := rfl
@[simp] theorem State.setFault_pool (s : State) (f : FaultFlag) : (s.setFault f).pool = s.pool := rfl
@[simp] theorem State.setFault_dispatcher (s : State) (f : FaultFlag) :
    (s.setFault f).dispatcher = s.dispatcher := rfl
@[simp] theorem State.setFault_ports (s : State) (f : FaultFlag) : (s.setFault f).ports = s.ports := rfl
@[simp] theorem State.setFault_faults (s : State) (f : FaultFlag) :
    (s.setFault f).faults = { s.faults with flags := s.faults.flags ||| (1 : BitVec 11) <<< f.bit } := rfl
@[simp] theorem State.setFault_params (s : State) (f : FaultFlag) : (s.setFault f).params = s.params := rfl
@[simp] theorem State.setFault_link (s : State) (f : FaultFlag) : (s.setFault f).link = s.link := rfl
@[simp] theorem State.setFault_pair (s : State) (f : FaultFlag) : (s.setFault f).pair = s.pair := rfl
@[simp] theorem State.setFault_transmitter (s : State) (f : FaultFlag) :
    (s.setFault f).transmitter = s.transmitter := rfl
@[simp] theorem State.setFault_receiver (s : State) (f : FaultFlag) : (s.setFault f).receiver = s.receiver := rfl
@[simp] theorem State.setFault_command (s : State) (f : FaultFlag) : (s.setFault f).command = s.command := rfl
@[simp] theorem State.setFault_choices (s : State) (f : FaultFlag) : (s.setFault f).choices = s.choices := rfl

/-! ### clearFaults -/

@[simp] theorem State.clearFaults_pending (s : State) (w : Word) : (s.clearFaults w).pending = s.pending := rfl
@[simp] theorem State.clearFaults_inReset (s : State) (w : Word) : (s.clearFaults w).inReset = s.inReset := rfl
@[simp] theorem State.clearFaults_dataOut (s : State) (w : Word) : (s.clearFaults w).dataOut = s.dataOut := rfl
@[simp] theorem State.clearFaults_timebase (s : State) (w : Word) : (s.clearFaults w).timebase = s.timebase := rfl
@[simp] theorem State.clearFaults_lines (s : State) (w : Word) : (s.clearFaults w).lines = s.lines := rfl
@[simp] theorem State.clearFaults_post (s : State) (w : Word) : (s.clearFaults w).post = s.post := rfl
@[simp] theorem State.clearFaults_internals (s : State) (w : Word) : (s.clearFaults w).internals = s.internals := rfl
@[simp] theorem State.clearFaults_table (s : State) (w : Word) : (s.clearFaults w).table = s.table := rfl
@[simp] theorem State.clearFaults_pool (s : State) (w : Word) : (s.clearFaults w).pool = s.pool := rfl
@[simp] theorem State.clearFaults_dispatcher (s : State) (w : Word) :
    (s.clearFaults w).dispatcher = s.dispatcher := rfl
@[simp] theorem State.clearFaults_ports (s : State) (w : Word) : (s.clearFaults w).ports = s.ports := rfl
@[simp] theorem State.clearFaults_faults (s : State) (w : Word) :
    (s.clearFaults w).faults = { s.faults with flags := s.faults.flags &&& ~~~(w.setWidth 11) } := rfl
@[simp] theorem State.clearFaults_params (s : State) (w : Word) : (s.clearFaults w).params = s.params := rfl
@[simp] theorem State.clearFaults_link (s : State) (w : Word) : (s.clearFaults w).link = s.link := rfl
@[simp] theorem State.clearFaults_pair (s : State) (w : Word) : (s.clearFaults w).pair = s.pair := rfl
@[simp] theorem State.clearFaults_transmitter (s : State) (w : Word) :
    (s.clearFaults w).transmitter = s.transmitter := rfl
@[simp] theorem State.clearFaults_receiver (s : State) (w : Word) : (s.clearFaults w).receiver = s.receiver := rfl
@[simp] theorem State.clearFaults_command (s : State) (w : Word) : (s.clearFaults w).command = s.command := rfl
@[simp] theorem State.clearFaults_choices (s : State) (w : Word) : (s.clearFaults w).choices = s.choices := rfl

/-! ### setWalk -/

@[simp] theorem State.setWalk_pending (s : State) (w : Walk) : (s.setWalk w).pending = s.pending := rfl
@[simp] theorem State.setWalk_inReset (s : State) (w : Walk) : (s.setWalk w).inReset = s.inReset := rfl
@[simp] theorem State.setWalk_dataOut (s : State) (w : Walk) : (s.setWalk w).dataOut = s.dataOut := rfl
@[simp] theorem State.setWalk_timebase (s : State) (w : Walk) : (s.setWalk w).timebase = s.timebase := rfl
@[simp] theorem State.setWalk_lines (s : State) (w : Walk) : (s.setWalk w).lines = s.lines := rfl
@[simp] theorem State.setWalk_post (s : State) (w : Walk) : (s.setWalk w).post = s.post := rfl
@[simp] theorem State.setWalk_internals (s : State) (w : Walk) : (s.setWalk w).internals = s.internals := rfl
@[simp] theorem State.setWalk_table (s : State) (w : Walk) : (s.setWalk w).table = s.table := rfl
@[simp] theorem State.setWalk_pool (s : State) (w : Walk) : (s.setWalk w).pool = s.pool := rfl
@[simp] theorem State.setWalk_dispatcher (s : State) (w : Walk) : (s.setWalk w).dispatcher = s.dispatcher := rfl
@[simp] theorem State.setWalk_ports (s : State) (w : Walk) : (s.setWalk w).ports = s.ports := rfl
@[simp] theorem State.setWalk_faults (s : State) (w : Walk) : (s.setWalk w).faults = s.faults := rfl
@[simp] theorem State.setWalk_params (s : State) (w : Walk) : (s.setWalk w).params = s.params := rfl
@[simp] theorem State.setWalk_link (s : State) (w : Walk) : (s.setWalk w).link = s.link := rfl
@[simp] theorem State.setWalk_pair (s : State) (w : Walk) : (s.setWalk w).pair = s.pair := rfl
@[simp] theorem State.setWalk_transmitter (s : State) (w : Walk) : (s.setWalk w).transmitter = s.transmitter := rfl
@[simp] theorem State.setWalk_receiver (s : State) (w : Walk) : (s.setWalk w).receiver = s.receiver := rfl
@[simp] theorem State.setWalk_command (s : State) (w : Walk) :
    (s.setWalk w).command = { s.command with walk := some w } := rfl
@[simp] theorem State.setWalk_choices (s : State) (w : Walk) : (s.setWalk w).choices = s.choices := rfl

/-! ### countVisit -/

@[simp] theorem State.countVisit_pending (s : State) : (s.countVisit).pending = s.pending := rfl
@[simp] theorem State.countVisit_inReset (s : State) : (s.countVisit).inReset = s.inReset := rfl
@[simp] theorem State.countVisit_dataOut (s : State) : (s.countVisit).dataOut = s.dataOut := rfl
@[simp] theorem State.countVisit_timebase (s : State) : (s.countVisit).timebase = s.timebase := rfl
@[simp] theorem State.countVisit_lines (s : State) : (s.countVisit).lines = s.lines := rfl
@[simp] theorem State.countVisit_post (s : State) : (s.countVisit).post = s.post := rfl
@[simp] theorem State.countVisit_internals (s : State) : (s.countVisit).internals = s.internals := rfl
@[simp] theorem State.countVisit_table (s : State) : (s.countVisit).table = s.table := rfl
@[simp] theorem State.countVisit_pool (s : State) : (s.countVisit).pool = s.pool := rfl
@[simp] theorem State.countVisit_dispatcher (s : State) : (s.countVisit).dispatcher = s.dispatcher := rfl
@[simp] theorem State.countVisit_ports (s : State) : (s.countVisit).ports = s.ports := rfl
@[simp] theorem State.countVisit_faults (s : State) : (s.countVisit).faults = s.faults := rfl
@[simp] theorem State.countVisit_params (s : State) : (s.countVisit).params = s.params := rfl
@[simp] theorem State.countVisit_link (s : State) : (s.countVisit).link = s.link := rfl
@[simp] theorem State.countVisit_pair (s : State) : (s.countVisit).pair = s.pair := rfl
@[simp] theorem State.countVisit_transmitter (s : State) : (s.countVisit).transmitter = s.transmitter := rfl
@[simp] theorem State.countVisit_receiver (s : State) : (s.countVisit).receiver = s.receiver := rfl
@[simp] theorem State.countVisit_command (s : State) :
    (s.countVisit).command = { s.command with result := s.command.result + 1 } := rfl
@[simp] theorem State.countVisit_choices (s : State) : (s.countVisit).choices = s.choices := rfl

/-! ### endWalk -/

@[simp] theorem State.endWalk_pending (s : State) : (s.endWalk).pending = s.pending := rfl
@[simp] theorem State.endWalk_inReset (s : State) : (s.endWalk).inReset = s.inReset := rfl
@[simp] theorem State.endWalk_dataOut (s : State) : (s.endWalk).dataOut = s.dataOut := rfl
@[simp] theorem State.endWalk_timebase (s : State) : (s.endWalk).timebase = s.timebase := rfl
@[simp] theorem State.endWalk_lines (s : State) : (s.endWalk).lines = s.lines := rfl
@[simp] theorem State.endWalk_post (s : State) : (s.endWalk).post = s.post := rfl
@[simp] theorem State.endWalk_internals (s : State) : (s.endWalk).internals = s.internals := rfl
@[simp] theorem State.endWalk_table (s : State) : (s.endWalk).table = s.table := rfl
@[simp] theorem State.endWalk_pool (s : State) : (s.endWalk).pool = s.pool := rfl
@[simp] theorem State.endWalk_dispatcher (s : State) : (s.endWalk).dispatcher = s.dispatcher := rfl
@[simp] theorem State.endWalk_ports (s : State) : (s.endWalk).ports = s.ports := rfl
@[simp] theorem State.endWalk_faults (s : State) : (s.endWalk).faults = s.faults := rfl
@[simp] theorem State.endWalk_params (s : State) : (s.endWalk).params = s.params := rfl
@[simp] theorem State.endWalk_link (s : State) : (s.endWalk).link = s.link := rfl
@[simp] theorem State.endWalk_pair (s : State) : (s.endWalk).pair = s.pair := rfl
@[simp] theorem State.endWalk_transmitter (s : State) : (s.endWalk).transmitter = s.transmitter := rfl
@[simp] theorem State.endWalk_receiver (s : State) : (s.endWalk).receiver = s.receiver := rfl
@[simp] theorem State.endWalk_command (s : State) :
    (s.endWalk).command = { s.command with status := .done, walk := none } := rfl
@[simp] theorem State.endWalk_choices (s : State) : (s.endWalk).choices = s.choices := rfl

/-! ### finish -/

@[simp] theorem State.finish_pending (s : State) (page : Agent) (code operand : Byte) (st : CommandStatus) (reason : Reason) (result : Word) :
    (s.finish page code operand st reason result).pending = s.pending := rfl
@[simp] theorem State.finish_inReset (s : State) (page : Agent) (code operand : Byte) (st : CommandStatus) (reason : Reason) (result : Word) :
    (s.finish page code operand st reason result).inReset = s.inReset := rfl
@[simp] theorem State.finish_dataOut (s : State) (page : Agent) (code operand : Byte) (st : CommandStatus) (reason : Reason) (result : Word) :
    (s.finish page code operand st reason result).dataOut = s.dataOut := rfl
@[simp] theorem State.finish_timebase (s : State) (page : Agent) (code operand : Byte) (st : CommandStatus) (reason : Reason) (result : Word) :
    (s.finish page code operand st reason result).timebase = s.timebase := rfl
@[simp] theorem State.finish_lines (s : State) (page : Agent) (code operand : Byte) (st : CommandStatus) (reason : Reason) (result : Word) :
    (s.finish page code operand st reason result).lines = s.lines := rfl
@[simp] theorem State.finish_post (s : State) (page : Agent) (code operand : Byte) (st : CommandStatus) (reason : Reason) (result : Word) :
    (s.finish page code operand st reason result).post = s.post := rfl
@[simp] theorem State.finish_internals (s : State) (page : Agent) (code operand : Byte) (st : CommandStatus) (reason : Reason) (result : Word) :
    (s.finish page code operand st reason result).internals = s.internals := rfl
@[simp] theorem State.finish_table (s : State) (page : Agent) (code operand : Byte) (st : CommandStatus) (reason : Reason) (result : Word) :
    (s.finish page code operand st reason result).table = s.table := rfl
@[simp] theorem State.finish_pool (s : State) (page : Agent) (code operand : Byte) (st : CommandStatus) (reason : Reason) (result : Word) :
    (s.finish page code operand st reason result).pool = s.pool := rfl
@[simp] theorem State.finish_dispatcher (s : State) (page : Agent) (code operand : Byte) (st : CommandStatus) (reason : Reason) (result : Word) :
    (s.finish page code operand st reason result).dispatcher = s.dispatcher := rfl
@[simp] theorem State.finish_ports (s : State) (page : Agent) (code operand : Byte) (st : CommandStatus) (reason : Reason) (result : Word) :
    (s.finish page code operand st reason result).ports = s.ports := rfl
@[simp] theorem State.finish_faults (s : State) (page : Agent) (code operand : Byte) (st : CommandStatus) (reason : Reason) (result : Word) :
    (s.finish page code operand st reason result).faults = s.faults := rfl
@[simp] theorem State.finish_params (s : State) (page : Agent) (code operand : Byte) (st : CommandStatus) (reason : Reason) (result : Word) :
    (s.finish page code operand st reason result).params = s.params := rfl
@[simp] theorem State.finish_link (s : State) (page : Agent) (code operand : Byte) (st : CommandStatus) (reason : Reason) (result : Word) :
    (s.finish page code operand st reason result).link = s.link := rfl
@[simp] theorem State.finish_pair (s : State) (page : Agent) (code operand : Byte) (st : CommandStatus) (reason : Reason) (result : Word) :
    (s.finish page code operand st reason result).pair = s.pair := rfl
@[simp] theorem State.finish_transmitter (s : State) (page : Agent) (code operand : Byte) (st : CommandStatus) (reason : Reason) (result : Word) :
    (s.finish page code operand st reason result).transmitter = s.transmitter := rfl
@[simp] theorem State.finish_receiver (s : State) (page : Agent) (code operand : Byte) (st : CommandStatus) (reason : Reason) (result : Word) :
    (s.finish page code operand st reason result).receiver = s.receiver := rfl
@[simp] theorem State.finish_command (s : State) (page : Agent) (code operand : Byte) (st : CommandStatus) (reason : Reason) (result : Word) :
    (s.finish page code operand st reason result).command =
      { status := st, code := code, operand := operand, issuer := page, reason := reason, result := result, walk := none } := rfl
@[simp] theorem State.finish_choices (s : State) (page : Agent) (code operand : Byte) (st : CommandStatus) (reason : Reason) (result : Word) :
    (s.finish page code operand st reason result).choices = s.choices := rfl

/-! ### startWalk -/

@[simp] theorem State.startWalk_pending (s : State) (page : Agent) (code operand : Byte) (result : Word) (w : Walk) :
    (s.startWalk page code operand result w).pending = s.pending := rfl
@[simp] theorem State.startWalk_inReset (s : State) (page : Agent) (code operand : Byte) (result : Word) (w : Walk) :
    (s.startWalk page code operand result w).inReset = s.inReset := rfl
@[simp] theorem State.startWalk_dataOut (s : State) (page : Agent) (code operand : Byte) (result : Word) (w : Walk) :
    (s.startWalk page code operand result w).dataOut = s.dataOut := rfl
@[simp] theorem State.startWalk_timebase (s : State) (page : Agent) (code operand : Byte) (result : Word) (w : Walk) :
    (s.startWalk page code operand result w).timebase = s.timebase := rfl
@[simp] theorem State.startWalk_lines (s : State) (page : Agent) (code operand : Byte) (result : Word) (w : Walk) :
    (s.startWalk page code operand result w).lines = s.lines := rfl
@[simp] theorem State.startWalk_post (s : State) (page : Agent) (code operand : Byte) (result : Word) (w : Walk) :
    (s.startWalk page code operand result w).post = s.post := rfl
@[simp] theorem State.startWalk_internals (s : State) (page : Agent) (code operand : Byte) (result : Word) (w : Walk) :
    (s.startWalk page code operand result w).internals = s.internals := rfl
@[simp] theorem State.startWalk_table (s : State) (page : Agent) (code operand : Byte) (result : Word) (w : Walk) :
    (s.startWalk page code operand result w).table = s.table := rfl
@[simp] theorem State.startWalk_pool (s : State) (page : Agent) (code operand : Byte) (result : Word) (w : Walk) :
    (s.startWalk page code operand result w).pool = s.pool := rfl
@[simp] theorem State.startWalk_dispatcher (s : State) (page : Agent) (code operand : Byte) (result : Word) (w : Walk) :
    (s.startWalk page code operand result w).dispatcher = s.dispatcher := rfl
@[simp] theorem State.startWalk_ports (s : State) (page : Agent) (code operand : Byte) (result : Word) (w : Walk) :
    (s.startWalk page code operand result w).ports = s.ports := rfl
@[simp] theorem State.startWalk_faults (s : State) (page : Agent) (code operand : Byte) (result : Word) (w : Walk) :
    (s.startWalk page code operand result w).faults = s.faults := rfl
@[simp] theorem State.startWalk_params (s : State) (page : Agent) (code operand : Byte) (result : Word) (w : Walk) :
    (s.startWalk page code operand result w).params = s.params := rfl
@[simp] theorem State.startWalk_link (s : State) (page : Agent) (code operand : Byte) (result : Word) (w : Walk) :
    (s.startWalk page code operand result w).link = s.link := rfl
@[simp] theorem State.startWalk_pair (s : State) (page : Agent) (code operand : Byte) (result : Word) (w : Walk) :
    (s.startWalk page code operand result w).pair = s.pair := rfl
@[simp] theorem State.startWalk_transmitter (s : State) (page : Agent) (code operand : Byte) (result : Word) (w : Walk) :
    (s.startWalk page code operand result w).transmitter = s.transmitter := rfl
@[simp] theorem State.startWalk_receiver (s : State) (page : Agent) (code operand : Byte) (result : Word) (w : Walk) :
    (s.startWalk page code operand result w).receiver = s.receiver := rfl
@[simp] theorem State.startWalk_command (s : State) (page : Agent) (code operand : Byte) (result : Word) (w : Walk) :
    (s.startWalk page code operand result w).command =
      { status := .busy, code := code, operand := operand, issuer := page, reason := .noReason, result := result, walk := some w } := rfl
@[simp] theorem State.startWalk_choices (s : State) (page : Agent) (code operand : Byte) (result : Word) (w : Walk) :
    (s.startWalk page code operand result w).choices = s.choices := rfl

/-! ### setPeerGrant -/

@[simp] theorem State.setPeerGrant_pending (s : State) (grant : Byte) :
    (s.setPeerGrant grant).pending = s.pending := rfl
@[simp] theorem State.setPeerGrant_inReset (s : State) (grant : Byte) :
    (s.setPeerGrant grant).inReset = s.inReset := rfl
@[simp] theorem State.setPeerGrant_dataOut (s : State) (grant : Byte) :
    (s.setPeerGrant grant).dataOut = s.dataOut := rfl
@[simp] theorem State.setPeerGrant_timebase (s : State) (grant : Byte) :
    (s.setPeerGrant grant).timebase = s.timebase := rfl
@[simp] theorem State.setPeerGrant_lines (s : State) (grant : Byte) : (s.setPeerGrant grant).lines = s.lines := rfl
@[simp] theorem State.setPeerGrant_post (s : State) (grant : Byte) : (s.setPeerGrant grant).post = s.post := rfl
@[simp] theorem State.setPeerGrant_internals (s : State) (grant : Byte) :
    (s.setPeerGrant grant).internals = s.internals := rfl
@[simp] theorem State.setPeerGrant_table (s : State) (grant : Byte) : (s.setPeerGrant grant).table = s.table := rfl
@[simp] theorem State.setPeerGrant_pool (s : State) (grant : Byte) : (s.setPeerGrant grant).pool = s.pool := rfl
@[simp] theorem State.setPeerGrant_dispatcher (s : State) (grant : Byte) :
    (s.setPeerGrant grant).dispatcher = s.dispatcher := rfl
@[simp] theorem State.setPeerGrant_ports (s : State) (grant : Byte) : (s.setPeerGrant grant).ports = s.ports := rfl
@[simp] theorem State.setPeerGrant_faults (s : State) (grant : Byte) : (s.setPeerGrant grant).faults = s.faults := rfl
@[simp] theorem State.setPeerGrant_params (s : State) (grant : Byte) : (s.setPeerGrant grant).params = s.params := rfl
@[simp] theorem State.setPeerGrant_link (s : State) (grant : Byte) :
    (s.setPeerGrant grant).link = { s.link with peerGrant := grant } := rfl
@[simp] theorem State.setPeerGrant_pair (s : State) (grant : Byte) : (s.setPeerGrant grant).pair = s.pair := rfl
@[simp] theorem State.setPeerGrant_transmitter (s : State) (grant : Byte) :
    (s.setPeerGrant grant).transmitter = s.transmitter := rfl
@[simp] theorem State.setPeerGrant_receiver (s : State) (grant : Byte) :
    (s.setPeerGrant grant).receiver = s.receiver := rfl
@[simp] theorem State.setPeerGrant_command (s : State) (grant : Byte) :
    (s.setPeerGrant grant).command = s.command := rfl
@[simp] theorem State.setPeerGrant_choices (s : State) (grant : Byte) :
    (s.setPeerGrant grant).choices = s.choices := rfl

/-! ### startResend -/

@[simp] theorem State.startResend_pending (s : State) (t : Transmitter) (mark : Option Byte) :
    (s.startResend t mark).pending = s.pending := rfl
@[simp] theorem State.startResend_inReset (s : State) (t : Transmitter) (mark : Option Byte) :
    (s.startResend t mark).inReset = s.inReset := rfl
@[simp] theorem State.startResend_dataOut (s : State) (t : Transmitter) (mark : Option Byte) :
    (s.startResend t mark).dataOut = s.dataOut := rfl
@[simp] theorem State.startResend_timebase (s : State) (t : Transmitter) (mark : Option Byte) :
    (s.startResend t mark).timebase = s.timebase := rfl
@[simp] theorem State.startResend_lines (s : State) (t : Transmitter) (mark : Option Byte) :
    (s.startResend t mark).lines = s.lines := rfl
@[simp] theorem State.startResend_post (s : State) (t : Transmitter) (mark : Option Byte) :
    (s.startResend t mark).post = s.post := rfl
@[simp] theorem State.startResend_internals (s : State) (t : Transmitter) (mark : Option Byte) :
    (s.startResend t mark).internals = s.internals := rfl
@[simp] theorem State.startResend_table (s : State) (t : Transmitter) (mark : Option Byte) :
    (s.startResend t mark).table = s.table := rfl
@[simp] theorem State.startResend_pool (s : State) (t : Transmitter) (mark : Option Byte) :
    (s.startResend t mark).pool = s.pool := rfl
@[simp] theorem State.startResend_dispatcher (s : State) (t : Transmitter) (mark : Option Byte) :
    (s.startResend t mark).dispatcher = s.dispatcher := rfl
@[simp] theorem State.startResend_ports (s : State) (t : Transmitter) (mark : Option Byte) :
    (s.startResend t mark).ports = s.ports := rfl
@[simp] theorem State.startResend_faults (s : State) (t : Transmitter) (mark : Option Byte) :
    (s.startResend t mark).faults = s.faults := rfl
@[simp] theorem State.startResend_params (s : State) (t : Transmitter) (mark : Option Byte) :
    (s.startResend t mark).params = s.params := rfl
@[simp] theorem State.startResend_link (s : State) (t : Transmitter) (mark : Option Byte) :
    (s.startResend t mark).link = s.link := rfl
@[simp] theorem State.startResend_pair (s : State) (t : Transmitter) (mark : Option Byte) :
    (s.startResend t mark).pair = s.pair.disarmed := rfl
@[simp] theorem State.startResend_transmitter (s : State) (t : Transmitter) (mark : Option Byte) :
    (s.startResend t mark).transmitter = { t with mark := mark, timer := .stopped } := rfl
@[simp] theorem State.startResend_receiver (s : State) (t : Transmitter) (mark : Option Byte) :
    (s.startResend t mark).receiver = s.receiver := rfl
@[simp] theorem State.startResend_command (s : State) (t : Transmitter) (mark : Option Byte) :
    (s.startResend t mark).command = s.command := rfl
@[simp] theorem State.startResend_choices (s : State) (t : Transmitter) (mark : Option Byte) :
    (s.startResend t mark).choices = s.choices := rfl

/-! ### removePending -/

@[simp] theorem State.removePending_pending (s : State) (k : Slot) : (s.removePending k).pending = s.pending := rfl
@[simp] theorem State.removePending_inReset (s : State) (k : Slot) : (s.removePending k).inReset = s.inReset := rfl
@[simp] theorem State.removePending_dataOut (s : State) (k : Slot) : (s.removePending k).dataOut = s.dataOut := rfl
@[simp] theorem State.removePending_timebase (s : State) (k : Slot) : (s.removePending k).timebase = s.timebase := rfl
@[simp] theorem State.removePending_lines (s : State) (k : Slot) : (s.removePending k).lines = s.lines := rfl
@[simp] theorem State.removePending_post (s : State) (k : Slot) : (s.removePending k).post = s.post := rfl
@[simp] theorem State.removePending_internals (s : State) (k : Slot) :
    (s.removePending k).internals = s.internals := rfl
@[simp] theorem State.removePending_table (s : State) (k : Slot) : (s.removePending k).table = s.table := rfl
@[simp] theorem State.removePending_pool (s : State) (k : Slot) : (s.removePending k).pool = s.pool := rfl
@[simp] theorem State.removePending_dispatcher (s : State) (k : Slot) :
    (s.removePending k).dispatcher =
      { s.dispatcher with queues := s.dispatcher.queues.map fun q => q.filter fun r => r.slot != k } := rfl
@[simp] theorem State.removePending_ports (s : State) (k : Slot) : (s.removePending k).ports = s.ports := rfl
@[simp] theorem State.removePending_faults (s : State) (k : Slot) : (s.removePending k).faults = s.faults := rfl
@[simp] theorem State.removePending_params (s : State) (k : Slot) : (s.removePending k).params = s.params := rfl
@[simp] theorem State.removePending_link (s : State) (k : Slot) : (s.removePending k).link = s.link := rfl
@[simp] theorem State.removePending_pair (s : State) (k : Slot) : (s.removePending k).pair = s.pair := rfl
@[simp] theorem State.removePending_transmitter (s : State) (k : Slot) :
    (s.removePending k).transmitter = s.transmitter := rfl
@[simp] theorem State.removePending_receiver (s : State) (k : Slot) : (s.removePending k).receiver = s.receiver := rfl
@[simp] theorem State.removePending_command (s : State) (k : Slot) : (s.removePending k).command = s.command := rfl
@[simp] theorem State.removePending_choices (s : State) (k : Slot) : (s.removePending k).choices = s.choices := rfl

/-! ### changePending -/

@[simp] theorem State.changePending_pending (s : State) (k : Slot) (f : EventRecord → EventRecord) :
    (s.changePending k f).pending = s.pending := rfl
@[simp] theorem State.changePending_inReset (s : State) (k : Slot) (f : EventRecord → EventRecord) :
    (s.changePending k f).inReset = s.inReset := rfl
@[simp] theorem State.changePending_dataOut (s : State) (k : Slot) (f : EventRecord → EventRecord) :
    (s.changePending k f).dataOut = s.dataOut := rfl
@[simp] theorem State.changePending_timebase (s : State) (k : Slot) (f : EventRecord → EventRecord) :
    (s.changePending k f).timebase = s.timebase := rfl
@[simp] theorem State.changePending_lines (s : State) (k : Slot) (f : EventRecord → EventRecord) :
    (s.changePending k f).lines = s.lines := rfl
@[simp] theorem State.changePending_post (s : State) (k : Slot) (f : EventRecord → EventRecord) :
    (s.changePending k f).post = s.post := rfl
@[simp] theorem State.changePending_internals (s : State) (k : Slot) (f : EventRecord → EventRecord) :
    (s.changePending k f).internals = s.internals := rfl
@[simp] theorem State.changePending_table (s : State) (k : Slot) (f : EventRecord → EventRecord) :
    (s.changePending k f).table = s.table := rfl
@[simp] theorem State.changePending_pool (s : State) (k : Slot) (f : EventRecord → EventRecord) :
    (s.changePending k f).pool = s.pool := rfl
@[simp] theorem State.changePending_dispatcher (s : State) (k : Slot) (f : EventRecord → EventRecord) :
    (s.changePending k f).dispatcher =
      { s.dispatcher with queues := s.dispatcher.queues.map fun q => q.map fun r => if r.slot = k then f r else r } := rfl
@[simp] theorem State.changePending_ports (s : State) (k : Slot) (f : EventRecord → EventRecord) :
    (s.changePending k f).ports = s.ports := rfl
@[simp] theorem State.changePending_faults (s : State) (k : Slot) (f : EventRecord → EventRecord) :
    (s.changePending k f).faults = s.faults := rfl
@[simp] theorem State.changePending_params (s : State) (k : Slot) (f : EventRecord → EventRecord) :
    (s.changePending k f).params = s.params := rfl
@[simp] theorem State.changePending_link (s : State) (k : Slot) (f : EventRecord → EventRecord) :
    (s.changePending k f).link = s.link := rfl
@[simp] theorem State.changePending_pair (s : State) (k : Slot) (f : EventRecord → EventRecord) :
    (s.changePending k f).pair = s.pair := rfl
@[simp] theorem State.changePending_transmitter (s : State) (k : Slot) (f : EventRecord → EventRecord) :
    (s.changePending k f).transmitter = s.transmitter := rfl
@[simp] theorem State.changePending_receiver (s : State) (k : Slot) (f : EventRecord → EventRecord) :
    (s.changePending k f).receiver = s.receiver := rfl
@[simp] theorem State.changePending_command (s : State) (k : Slot) (f : EventRecord → EventRecord) :
    (s.changePending k f).command = s.command := rfl
@[simp] theorem State.changePending_choices (s : State) (k : Slot) (f : EventRecord → EventRecord) :
    (s.changePending k f).choices = s.choices := rfl

/-! ### insertTail -/

@[simp] theorem State.insertTail_pending (s : State) (r : EventRecord) : (s.insertTail r).pending = s.pending := rfl
@[simp] theorem State.insertTail_inReset (s : State) (r : EventRecord) : (s.insertTail r).inReset = s.inReset := rfl
@[simp] theorem State.insertTail_dataOut (s : State) (r : EventRecord) : (s.insertTail r).dataOut = s.dataOut := rfl
@[simp] theorem State.insertTail_timebase (s : State) (r : EventRecord) :
    (s.insertTail r).timebase = s.timebase := rfl
@[simp] theorem State.insertTail_lines (s : State) (r : EventRecord) : (s.insertTail r).lines = s.lines := rfl
@[simp] theorem State.insertTail_post (s : State) (r : EventRecord) : (s.insertTail r).post = s.post := rfl
@[simp] theorem State.insertTail_internals (s : State) (r : EventRecord) :
    (s.insertTail r).internals = s.internals := rfl
@[simp] theorem State.insertTail_table (s : State) (r : EventRecord) : (s.insertTail r).table = s.table := rfl
@[simp] theorem State.insertTail_pool (s : State) (r : EventRecord) : (s.insertTail r).pool = s.pool := rfl
@[simp] theorem State.insertTail_dispatcher (s : State) (r : EventRecord) :
    (s.insertTail r).dispatcher =
      { s.dispatcher with queues := s.dispatcher.queues.set r.cls.val (s.queue r.cls ++ [r]) r.cls.isLt } := rfl
@[simp] theorem State.insertTail_ports (s : State) (r : EventRecord) : (s.insertTail r).ports = s.ports := rfl
@[simp] theorem State.insertTail_faults (s : State) (r : EventRecord) : (s.insertTail r).faults = s.faults := rfl
@[simp] theorem State.insertTail_params (s : State) (r : EventRecord) : (s.insertTail r).params = s.params := rfl
@[simp] theorem State.insertTail_link (s : State) (r : EventRecord) : (s.insertTail r).link = s.link := rfl
@[simp] theorem State.insertTail_pair (s : State) (r : EventRecord) : (s.insertTail r).pair = s.pair := rfl
@[simp] theorem State.insertTail_transmitter (s : State) (r : EventRecord) :
    (s.insertTail r).transmitter = s.transmitter := rfl
@[simp] theorem State.insertTail_receiver (s : State) (r : EventRecord) :
    (s.insertTail r).receiver = s.receiver := rfl
@[simp] theorem State.insertTail_command (s : State) (r : EventRecord) : (s.insertTail r).command = s.command := rfl
@[simp] theorem State.insertTail_choices (s : State) (r : EventRecord) : (s.insertTail r).choices = s.choices := rfl

/-! ### insertHead -/

@[simp] theorem State.insertHead_pending (s : State) (r : EventRecord) : (s.insertHead r).pending = s.pending := rfl
@[simp] theorem State.insertHead_inReset (s : State) (r : EventRecord) : (s.insertHead r).inReset = s.inReset := rfl
@[simp] theorem State.insertHead_dataOut (s : State) (r : EventRecord) : (s.insertHead r).dataOut = s.dataOut := rfl
@[simp] theorem State.insertHead_timebase (s : State) (r : EventRecord) :
    (s.insertHead r).timebase = s.timebase := rfl
@[simp] theorem State.insertHead_lines (s : State) (r : EventRecord) : (s.insertHead r).lines = s.lines := rfl
@[simp] theorem State.insertHead_post (s : State) (r : EventRecord) : (s.insertHead r).post = s.post := rfl
@[simp] theorem State.insertHead_internals (s : State) (r : EventRecord) :
    (s.insertHead r).internals = s.internals := rfl
@[simp] theorem State.insertHead_table (s : State) (r : EventRecord) : (s.insertHead r).table = s.table := rfl
@[simp] theorem State.insertHead_pool (s : State) (r : EventRecord) : (s.insertHead r).pool = s.pool := rfl
@[simp] theorem State.insertHead_dispatcher (s : State) (r : EventRecord) :
    (s.insertHead r).dispatcher =
      { s.dispatcher with queues := s.dispatcher.queues.set r.cls.val (r :: s.queue r.cls) r.cls.isLt } := rfl
@[simp] theorem State.insertHead_ports (s : State) (r : EventRecord) : (s.insertHead r).ports = s.ports := rfl
@[simp] theorem State.insertHead_faults (s : State) (r : EventRecord) : (s.insertHead r).faults = s.faults := rfl
@[simp] theorem State.insertHead_params (s : State) (r : EventRecord) : (s.insertHead r).params = s.params := rfl
@[simp] theorem State.insertHead_link (s : State) (r : EventRecord) : (s.insertHead r).link = s.link := rfl
@[simp] theorem State.insertHead_pair (s : State) (r : EventRecord) : (s.insertHead r).pair = s.pair := rfl
@[simp] theorem State.insertHead_transmitter (s : State) (r : EventRecord) :
    (s.insertHead r).transmitter = s.transmitter := rfl
@[simp] theorem State.insertHead_receiver (s : State) (r : EventRecord) :
    (s.insertHead r).receiver = s.receiver := rfl
@[simp] theorem State.insertHead_command (s : State) (r : EventRecord) :
    (s.insertHead r).command = { s.command with walk := s.command.walk.map (·.headInserted r.cls) } := rfl
@[simp] theorem State.insertHead_choices (s : State) (r : EventRecord) : (s.insertHead r).choices = s.choices := rfl

/-! ### countAllocation -/

@[simp] theorem State.countAllocation_pending (s : State) (r : EventRecord) :
    (s.countAllocation r).pending = s.pending := rfl
@[simp] theorem State.countAllocation_inReset (s : State) (r : EventRecord) :
    (s.countAllocation r).inReset = s.inReset := rfl
@[simp] theorem State.countAllocation_dataOut (s : State) (r : EventRecord) :
    (s.countAllocation r).dataOut = s.dataOut := rfl
@[simp] theorem State.countAllocation_timebase (s : State) (r : EventRecord) :
    (s.countAllocation r).timebase = s.timebase := rfl
@[simp] theorem State.countAllocation_lines (s : State) (r : EventRecord) :
    (s.countAllocation r).lines = s.lines := rfl
@[simp] theorem State.countAllocation_post (s : State) (r : EventRecord) : (s.countAllocation r).post = s.post := rfl
@[simp] theorem State.countAllocation_internals (s : State) (r : EventRecord) :
    (s.countAllocation r).internals = s.internals := rfl
@[simp] theorem State.countAllocation_table (s : State) (r : EventRecord) :
    (s.countAllocation r).table = s.table := rfl
@[simp] theorem State.countAllocation_pool (s : State) (r : EventRecord) :
    (s.countAllocation r).pool =
      { s.pool with nextSeq := s.pool.nextSeq.set r.source.val (r.seq + 1) r.source.isLt, nextSerial := s.pool.nextSerial + 1 } := rfl
@[simp] theorem State.countAllocation_dispatcher (s : State) (r : EventRecord) :
    (s.countAllocation r).dispatcher = s.dispatcher := rfl
@[simp] theorem State.countAllocation_ports (s : State) (r : EventRecord) :
    (s.countAllocation r).ports = s.ports := rfl
@[simp] theorem State.countAllocation_faults (s : State) (r : EventRecord) :
    (s.countAllocation r).faults = s.faults := rfl
@[simp] theorem State.countAllocation_params (s : State) (r : EventRecord) :
    (s.countAllocation r).params = s.params := rfl
@[simp] theorem State.countAllocation_link (s : State) (r : EventRecord) : (s.countAllocation r).link = s.link := rfl
@[simp] theorem State.countAllocation_pair (s : State) (r : EventRecord) : (s.countAllocation r).pair = s.pair := rfl
@[simp] theorem State.countAllocation_transmitter (s : State) (r : EventRecord) :
    (s.countAllocation r).transmitter = s.transmitter := rfl
@[simp] theorem State.countAllocation_receiver (s : State) (r : EventRecord) :
    (s.countAllocation r).receiver = s.receiver := rfl
@[simp] theorem State.countAllocation_command (s : State) (r : EventRecord) :
    (s.countAllocation r).command = s.command := rfl
@[simp] theorem State.countAllocation_choices (s : State) (r : EventRecord) :
    (s.countAllocation r).choices = s.choices := rfl

/-! ### setLastResult -/

@[simp] theorem State.setLastResult_pending (s : State) (a : Agent) (x : LastResult) :
    (s.setLastResult a x).pending = s.pending := rfl
@[simp] theorem State.setLastResult_inReset (s : State) (a : Agent) (x : LastResult) :
    (s.setLastResult a x).inReset = s.inReset := rfl
@[simp] theorem State.setLastResult_dataOut (s : State) (a : Agent) (x : LastResult) :
    (s.setLastResult a x).dataOut = s.dataOut := rfl
@[simp] theorem State.setLastResult_timebase (s : State) (a : Agent) (x : LastResult) :
    (s.setLastResult a x).timebase = s.timebase := rfl
@[simp] theorem State.setLastResult_lines (s : State) (a : Agent) (x : LastResult) :
    (s.setLastResult a x).lines = s.lines := rfl
@[simp] theorem State.setLastResult_post (s : State) (a : Agent) (x : LastResult) :
    (s.setLastResult a x).post = s.post := rfl
@[simp] theorem State.setLastResult_internals (s : State) (a : Agent) (x : LastResult) :
    (s.setLastResult a x).internals = s.internals := rfl
@[simp] theorem State.setLastResult_table (s : State) (a : Agent) (x : LastResult) :
    (s.setLastResult a x).table = s.table := rfl
@[simp] theorem State.setLastResult_pool (s : State) (a : Agent) (x : LastResult) :
    (s.setLastResult a x).pool = s.pool := rfl
@[simp] theorem State.setLastResult_dispatcher (s : State) (a : Agent) (x : LastResult) :
    (s.setLastResult a x).dispatcher = s.dispatcher := rfl
@[simp] theorem State.setLastResult_ports (s : State) (a : Agent) (x : LastResult) :
    (s.setLastResult a x).ports = s.ports.set a.val { s.port a with lastResult := x } a.isLt := rfl
@[simp] theorem State.setLastResult_faults (s : State) (a : Agent) (x : LastResult) :
    (s.setLastResult a x).faults = s.faults := rfl
@[simp] theorem State.setLastResult_params (s : State) (a : Agent) (x : LastResult) :
    (s.setLastResult a x).params = s.params := rfl
@[simp] theorem State.setLastResult_link (s : State) (a : Agent) (x : LastResult) :
    (s.setLastResult a x).link = s.link := rfl
@[simp] theorem State.setLastResult_pair (s : State) (a : Agent) (x : LastResult) :
    (s.setLastResult a x).pair = s.pair := rfl
@[simp] theorem State.setLastResult_transmitter (s : State) (a : Agent) (x : LastResult) :
    (s.setLastResult a x).transmitter = s.transmitter := rfl
@[simp] theorem State.setLastResult_receiver (s : State) (a : Agent) (x : LastResult) :
    (s.setLastResult a x).receiver = s.receiver := rfl
@[simp] theorem State.setLastResult_command (s : State) (a : Agent) (x : LastResult) :
    (s.setLastResult a x).command = s.command := rfl
@[simp] theorem State.setLastResult_choices (s : State) (a : Agent) (x : LastResult) :
    (s.setLastResult a x).choices = s.choices := rfl

/-! ### pop -/

@[simp] theorem State.pop_pending (s : State) (a : Agent) : (s.pop a).pending = s.pending := rfl
@[simp] theorem State.pop_inReset (s : State) (a : Agent) : (s.pop a).inReset = s.inReset := rfl
@[simp] theorem State.pop_dataOut (s : State) (a : Agent) : (s.pop a).dataOut = s.dataOut := rfl
@[simp] theorem State.pop_timebase (s : State) (a : Agent) : (s.pop a).timebase = s.timebase := rfl
@[simp] theorem State.pop_lines (s : State) (a : Agent) : (s.pop a).lines = s.lines := rfl
@[simp] theorem State.pop_post (s : State) (a : Agent) : (s.pop a).post = s.post := rfl
@[simp] theorem State.pop_internals (s : State) (a : Agent) : (s.pop a).internals = s.internals := rfl
@[simp] theorem State.pop_table (s : State) (a : Agent) : (s.pop a).table = s.table := rfl
@[simp] theorem State.pop_pool (s : State) (a : Agent) : (s.pop a).pool = s.pool := rfl
@[simp] theorem State.pop_dispatcher (s : State) (a : Agent) : (s.pop a).dispatcher = s.dispatcher := rfl
@[simp] theorem State.pop_ports (s : State) (a : Agent) :
    (s.pop a).ports = s.ports.set a.val ((s.port a).withStack (s.port a).stack.tail) a.isLt := rfl
@[simp] theorem State.pop_faults (s : State) (a : Agent) : (s.pop a).faults = s.faults := rfl
@[simp] theorem State.pop_params (s : State) (a : Agent) : (s.pop a).params = s.params := rfl
@[simp] theorem State.pop_link (s : State) (a : Agent) : (s.pop a).link = s.link := rfl
@[simp] theorem State.pop_pair (s : State) (a : Agent) : (s.pop a).pair = s.pair := rfl
@[simp] theorem State.pop_transmitter (s : State) (a : Agent) : (s.pop a).transmitter = s.transmitter := rfl
@[simp] theorem State.pop_receiver (s : State) (a : Agent) : (s.pop a).receiver = s.receiver := rfl
@[simp] theorem State.pop_command (s : State) (a : Agent) : (s.pop a).command = s.command := rfl
@[simp] theorem State.pop_choices (s : State) (a : Agent) : (s.pop a).choices = s.choices := rfl

/-! ### Reading back -/

@[simp] theorem State.port_setPort_self (s : State) (a : Agent) (p : Port) : (s.setPort a p).port a = p := by
  simp [State.port]

theorem State.port_setPort_ne (s : State) {a b : Agent} (p : Port) (h : b ≠ a) : (s.setPort a p).port b = s.port b := by
  have : a.val ≠ b.val := fun e => h (Fin.ext e.symm)
  simp [State.port, Fin.getElem_fin, Vector.getElem_set_ne, this]

@[simp] theorem State.line_setLine_self (s : State) (n : Line) (l : LineInput) : (s.setLine n l).line n = l := by
  simp [State.line]

theorem State.line_setLine_ne (s : State) {n m : Line} (l : LineInput) (h : m ≠ n) :
    (s.setLine n l).line m = s.line m := by
  have : n.val ≠ m.val := fun e => h (Fin.ext e.symm)
  simp [State.line, Fin.getElem_fin, Vector.getElem_set_ne, this]

@[simp] theorem State.internal_setInternal_self (s : State) (i : Fin 4) (x : InternalSource) :
    (s.setInternal i x).internal i = x := by
  simp [State.internal]

theorem State.internal_setInternal_ne (s : State) {i j : Fin 4} (x : InternalSource) (h : j ≠ i) :
    (s.setInternal i x).internal j = s.internal j := by
  have : i.val ≠ j.val := fun e => h (Fin.ext e.symm)
  simp [State.internal, Fin.getElem_fin, Vector.getElem_set_ne, this]

@[simp] theorem State.setPort_setPort (s : State) (a : Agent) (p q : Port) :
    (s.setPort a p).setPort a q = s.setPort a q := by
  simp [State.setPort]

@[simp] theorem State.setPort_port (s : State) (a : Agent) : s.setPort a (s.port a) = s := by
  simp [State.setPort, State.port]

@[simp] theorem State.setLine_setLine (s : State) (n : Line) (l m : LineInput) :
    (s.setLine n l).setLine n m = s.setLine n m := by
  simp [State.setLine]

@[simp] theorem State.setLine_line (s : State) (n : Line) : s.setLine n (s.line n) = s := by
  simp [State.setLine, State.line]

@[simp] theorem State.setInternal_internal (s : State) (i : Fin 4) : s.setInternal i (s.internal i) = s := by
  simp [State.setInternal, State.internal]

end Sys2Proof.Machine
end

