-- ==== Sys2Proof/Laws/Ops.lean ====
section
/-!
SUPPORT. What the shared operations can do, said once for each: the class queues, slots, arrivals, raisings, follow-ups,
frames. Proofs cite these and do not unfold the operations.
-/
namespace Sys2Proof.Machine

/-! ## Class queues -/

theorem queue_setQueues (s : State) (qs : Vector (List EventRecord) 16) (c : Class) :
    (s.setQueues qs).queue c = qs[c] := rfl

/-- R41: the tail of its own queue, and no other queue. -/
theorem queue_insertTail (s : State) (r : EventRecord) (c : Class) :
    (s.insertTail r).queue c = if c = r.cls then s.queue c ++ [r] else s.queue c := by
  by_cases h : c = r.cls
  · subst h; simp [State.insertTail, queue_setQueues]
  · have : r.cls.val ≠ c.val := fun e => h (Fin.ext e.symm)
    simp [State.insertTail, State.queue, h, Vector.getElem_set_ne, this]

/-- R42: the head of its own queue, and no other queue. -/
theorem queue_insertHead (s : State) (r : EventRecord) (c : Class) :
    (s.insertHead r).queue c = if c = r.cls then r :: s.queue c else s.queue c := by
  by_cases h : c = r.cls
  · subst h; simp [State.insertHead, State.setQueues, State.queue]
  · have : r.cls.val ≠ c.val := fun e => h (Fin.ext e.symm)
    simp [State.insertHead, State.setQueues, State.queue, h, Vector.getElem_set_ne, this]

/-- R43: every queue less the record in slot k. -/
theorem queue_removePending (s : State) (k : Slot) (c : Class) :
    (s.removePending k).queue c = (s.queue c).filter fun r => r.slot != k := by
  simp [State.removePending, State.queue, State.setQueues]

theorem queue_changePending (s : State) (k : Slot) (f : EventRecord → EventRecord) (c : Class) :
    (s.changePending k f).queue c = (s.queue c).map fun r => if r.slot = k then f r else r := by
  simp [State.changePending, State.queue, State.setQueues]

/-- A record is pending exactly when it is in some class queue (R39). -/
theorem mem_pendingRecords (s : State) (r : EventRecord) : r ∈ s.pendingRecords ↔ ∃ c, r ∈ s.queue c := by
  simp [State.pendingRecords, classesDown]

/-- A record is in service exactly when it is on some agent's stack (R8). -/
theorem mem_stackedRecords (s : State) (r : EventRecord) : r ∈ s.stackedRecords ↔ ∃ a, r ∈ (s.port a).stack := by
  simp [State.stackedRecords]

/-- A record handed back is at the head of its queue, perhaps with the latest cause merged in (R31, R42); only an
internal source's flag and a walk's position change with it. -/
theorem handBack_eq (s : State) (r : EventRecord) :
    (∃ r' : EventRecord, r'.cls = r.cls ∧ r'.pair = r.pair ∧ r'.slot = r.slot ∧
      ∃ xs, s.handBack r = { s with internals := xs }.insertHead r') := by
  unfold State.handBack
  split
  · exact ⟨r, rfl, rfl, rfl, s.internals, rfl⟩
  · dsimp only
    split
    · exact ⟨{ r with count := satByte r.count, payload := .two _ _ }, rfl, rfl, rfl, _, rfl⟩
    · exact ⟨r, rfl, rfl, rfl, s.internals, rfl⟩

/-! ## Slots -/

/-- R10: the free slot taken is FREE and every lower slot holds a record. -/
theorem freeSlot_eq_some (s : State) (k : Slot) :
    s.freeSlot = some k ↔
      (∀ r ∈ s.allocated, r.slot ≠ k) ∧ ∀ j : Slot, j < k → ∃ r ∈ s.allocated, r.slot = j := by
  simp only [State.freeSlot, List.find?_eq_some_iff_getElem]
  constructor
  · rintro ⟨h1, i, hi, he, h2⟩
    simp only [List.all_eq_true, bne_iff_ne, ne_eq] at h1
    refine ⟨h1, fun j hj => ?_⟩
    simp only [List.getElem_finRange] at he
    have hik : i = k.val := by have := congrArg Fin.val he; simpa using this
    have := h2 j.val (by have := Fin.lt_def.mp hj; omega)
    simpa using this
  · rintro ⟨h1, h2⟩
    refine ⟨by simpa using h1, k.val, by simp, by simp, fun j hj => ?_⟩
    obtain ⟨r, hr, he⟩ := h2 ⟨j, by omega⟩ (Fin.lt_def.mpr hj)
    simp only [List.getElem_finRange, Bool.not_eq_eq_eq_not, Bool.not_true, List.all_eq_false, bne_iff_ne, ne_eq,
      Decidable.not_not]
    exact ⟨r, hr, by simp [he]⟩

/-! ## Selection -/

/-- R60 reads of a port its threshold and its stack alone. -/
theorem selection_setPort (s : State) (a : Agent) (p : Port) (threshold : p.threshold = (s.port a).threshold)
    (stack : p.stack = (s.port a).stack) : (s.setPort a p).selection a = s.selection a := by
  have h : (s.setPort a p).eligible a = s.eligible a := by
    funext r
    simp [State.eligible, State.held, threshold, stack]
  simp only [State.selection, h]
  rfl

theorem selection_eq_none (s : State) (a : Agent) :
    s.selection a = none ↔ ∀ r ∈ s.pendingRecords, s.eligible a r = false := by
  simp [State.selection]

theorem mem_of_selection {s : State} {a : Agent} {r : EventRecord} (h : s.selection a = some r) :
    r ∈ s.pendingRecords ∧ s.eligible a r = true :=
  ⟨List.mem_of_find?_eq_some h, List.find?_some h⟩

/-! ## The top of a stack changes -/

/-- R91: a tick still due at the port reaches the new top, which counts down, or is due itself with 1 left (log 4). -/
theorem withStack_eq (p : Port) (stack : List EventRecord) (serving : p.state ≠ .draining) :
    p.withStack stack =
      if p.tickDue = false then { p with stack := stack }
      else
        match stack with
        | [] => { p with stack := [], tickDue := false }
        | r :: rest =>
          match r.remaining with
          | none => { p with stack := r :: rest, tickDue := false }
          | some n =>
            if n.toNat ≤ 1 then { p with stack := r :: rest, tickDue := true }
            else { p with stack := { r with remaining := some (n - 1) } :: rest, tickDue := false } := by
  unfold Port.withStack
  cases due : p.tickDue
  · rfl
  · rw [if_pos rfl, if_neg (by decide)]
    unfold Port.ticked
    cases stack with
    | nil => rfl
    | cons r rest =>
      cases r.remaining <;> exact (if_neg serving).trans rfl

/-! ## Records named by a reference stay where they are -/

/-- The newest pending record is pending and of the source. -/
theorem mem_of_newestPending {s : State} {src : Source} {r : EventRecord} (h : s.newestPending src = some r) :
    r ∈ s.pendingRecords ∧ r.source = src := by
  have key : ∀ (l : List EventRecord) (best : Option EventRecord),
      (∀ x, best = some x → x.source = src) →
      ∀ r, l.foldl
        (fun best r =>
          if r.source = src then
            match best with
            | none => some r
            | some b => if b.serial < r.serial then some r else some b
          else best) best = some r → (r ∈ l ∨ best = some r) ∧ r.source = src := by
    intro l
    induction l with
    | nil => intro best hb r hr; exact ⟨.inr hr, hb r hr⟩
    | cons y ys ih =>
      intro best hb r hr
      simp only [List.foldl_cons] at hr
      split at hr
      · next hy =>
        have hb' : ∀ x, (match best with
            | none => some y
            | some b => if b.serial < y.serial then some y else some b) = some x → x.source = src := by
          intro x hx
          split at hx
          · cases hx; exact hy
          · split at hx
            · cases hx; exact hy
            · exact hb x hx
        obtain ⟨h1, h2⟩ := ih _ hb' r hr
        refine ⟨?_, h2⟩
        rcases h1 with h1 | h1
        · exact .inl (List.mem_cons_of_mem _ h1)
        · split at h1
          · cases h1; exact .inl List.mem_cons_self
          · split at h1
            · cases h1; exact .inl List.mem_cons_self
            · exact .inr h1
      · obtain ⟨h1, h2⟩ := ih _ hb r hr
        exact ⟨h1.imp (List.mem_cons_of_mem _) id, h2⟩
  have := key s.pendingRecords none (by simp) r h
  exact ⟨this.1.resolve_right (by simp), this.2⟩

/-! ## Raisings and arrivals: all they can change -/

/-- All that a raising can change (R29). -/
theorem raise_eq (s : State) (i : Fin 4) (w0 w1 : Word) :
    ∃ pool qs xs, s.raise i w0 w1 =
      { s with pool := pool, dispatcher := { s.dispatcher with queues := qs }, internals := xs } := by
  unfold State.raise
  dsimp only
  split
  · exact ⟨_, _, _, rfl⟩
  · split
    · exact ⟨_, _, _, rfl⟩
    · split
      · exact ⟨_, _, _, rfl⟩
      · split
        · split
          · exact ⟨_, _, _, rfl⟩
          · exact ⟨_, _, _, rfl⟩
        · exact ⟨_, _, _, rfl⟩

/-- All that an overflow can change (R36). -/
theorem countOverflow_eq (s : State) (src : Source) :
    ∃ pool qs xs faults, s.countOverflow src =
      { s with
        pool := pool, dispatcher := { s.dispatcher with queues := qs }, internals := xs, faults := faults } := by
  unfold State.countOverflow
  dsimp only
  obtain ⟨pool, qs, xs, h⟩ := raise_eq
    (State.setFault
      { s with
        pool := { s.pool with
          overflow := s.pool.overflow.set src.val (satByte s.pool.overflow[src]) src.isLt } } .overflow)
    overflowSource (BitVec.ofNat 16 src.val) ((satByte s.pool.overflow[src]).setWidth 16)
  exact ⟨pool, qs, xs, _, h⟩

/-- All that an arrival can change (R33 to R36). -/
theorem resolve_eq (s : State) (a : Arrival) :
    ∃ pool qs xs faults fs, (s.resolve a).1 =
      { s with
        pool := pool, dispatcher := { s.dispatcher with queues := qs }, internals := xs, faults := faults
        transmitter := { s.transmitter with queue := fs } } := by
  have overflowing : ∀ src, ∃ pool qs xs faults fs, s.countOverflow src =
      { s with
        pool := pool, dispatcher := { s.dispatcher with queues := qs }, internals := xs, faults := faults
        transmitter := { s.transmitter with queue := fs } } := by
    intro src
    obtain ⟨pool, qs, xs, faults, h⟩ := countOverflow_eq s src
    exact ⟨pool, qs, xs, faults, s.transmitter.queue, h⟩
  have room : ∃ pool qs xs faults fs, (s.allocateOrOverflow a).1 =
      { s with
        pool := pool, dispatcher := { s.dispatcher with queues := qs }, internals := xs, faults := faults
        transmitter := { s.transmitter with queue := fs } } := by
    unfold State.allocateOrOverflow
    split
    · split
      · unfold State.place
        split
        · exact ⟨_, _, _, _, _, rfl⟩
        · split
          · split
            · exact ⟨_, _, _, _, _, rfl⟩
            · exact ⟨_, _, _, _, _, rfl⟩
          · exact ⟨_, _, _, _, _, rfl⟩
      · exact overflowing _
    · exact overflowing _
  unfold State.resolve
  dsimp only
  split
  · exact ⟨_, _, _, _, _, rfl⟩
  · split
    · exact ⟨_, _, _, _, _, rfl⟩
    · split
      · exact ⟨_, _, _, _, _, rfl⟩
      · split
        · exact ⟨_, _, _, _, _, rfl⟩
        · exact ⟨_, _, _, _, _, rfl⟩
        · exact room

/-- All that a follow-up can change (R24, R30, R37). -/
theorem followUp_eq (f : FollowUp) (s : State) :
    ∃ pool qs xs faults fs, followUp f s =
      { s with
        pool := pool, dispatcher := { s.dispatcher with queues := qs }, internals := xs, faults := faults
        transmitter := { s.transmitter with queue := fs } } := by
  unfold followUp
  split
  · split
    · exact resolve_eq s _
    · exact ⟨_, _, _, _, _, rfl⟩
  · obtain ⟨pool, qs, xs, h⟩ := raise_eq s _ _ _
    exact ⟨pool, qs, xs, s.faults, s.transmitter.queue, h⟩
  · exact resolve_eq s _

/-! ## A free order -/

/-- A property that every run keeps, and that does not read the counter of free values, holds after a free order. -/
theorem inFreeOrder_keeps {α : Type} (P : State → Prop) (run : α → State → State)
    (choices : ∀ s n, P s → P { s with choices := n }) :
    ∀ (fuel : Nat) (xs : List α) (s : State), (∀ x ∈ xs, ∀ s, P s → P (run x s)) → P s → P (inFreeOrder run fuel xs s) := by
  intro fuel
  induction fuel with
  | zero => intro xs s _ h; simpa [inFreeOrder] using h
  | succ fuel ih =>
    intro xs s keeps h
    match xs with
    | [] => simpa [inFreeOrder] using h
    | [x] => simpa [inFreeOrder] using keeps x (by simp) s h
    | x :: y :: rest =>
      simp only [inFreeOrder]
      refine ih _ _ (fun z hz => keeps z (List.mem_of_mem_eraseIdx hz)) (keeps _ ?_ _ (choices s _ h))
      have lt : Config.freeChoice s.choices % (x :: y :: rest).length < (x :: y :: rest).length :=
        Nat.mod_lt _ (by simp)
      simp only [List.getD, List.getElem?_eq_getElem lt, Option.getD_some]
      exact List.getElem_mem _

/-- The same for the follow-ups an event sets off. -/
theorem followUps_keeps (P : State → Prop) (choices : ∀ s n, P s → P { s with choices := n })
    (keeps : ∀ f s, P s → P (followUp f s)) (fs : List FollowUp) (s : State) (h : P s) : P (s.followUps fs) :=
  inFreeOrder_keeps P followUp choices _ _ _ (fun f _ => keeps f) h

/-- All that follow-ups can change. -/
theorem followUps_eq (s : State) (fs : List FollowUp) :
    ∃ pool qs xs faults q n, s.followUps fs =
      { s with
        pool := pool, dispatcher := { s.dispatcher with queues := qs }, internals := xs, faults := faults
        transmitter := { s.transmitter with queue := q }, choices := n } := by
  refine followUps_keeps
    (fun t => ∃ pool qs xs faults q n, t =
      { s with
        pool := pool, dispatcher := { s.dispatcher with queues := qs }, internals := xs, faults := faults
        transmitter := { s.transmitter with queue := q }, choices := n }) ?_ ?_ fs s ⟨_, _, _, _, _, _, rfl⟩
  · rintro _ n ⟨pool, qs, xs, faults, q, _, rfl⟩
    exact ⟨pool, qs, xs, faults, q, n, rfl⟩
  · rintro f _ ⟨pool, qs, xs, faults, q, n, rfl⟩
    obtain ⟨pool', qs', xs', faults', q', h⟩ := followUp_eq f
      { s with
        pool := pool, dispatcher := { s.dispatcher with queues := qs }, internals := xs, faults := faults
        transmitter := { s.transmitter with queue := q }, choices := n }
    exact ⟨pool', qs', xs', faults', q', n, h⟩

@[simp] theorem followUps_nil (s : State) : s.followUps [] = s := by
  simp [State.followUps, State.settle, inFreeOrder]

@[simp] theorem followUps_raise (s : State) (i : Fin 4) (w0 w1 : Word) :
    s.followUps [.raise i w0 w1] = s.raise i w0 w1 := by
  simp [State.followUps, State.settle, inFreeOrder, followUp]

/-- One re-arm occasion (R24). -/
theorem followUps_rearm (s : State) (n : Line) :
    s.followUps [.rearm n] =
      if s.lineActive n = true ∧ s.outstanding (lineSource n) = 0 then (s.resolve (s.lineArrival n)).1 else s := by
  by_cases h : s.lineActive n = true ∧ s.outstanding (lineSource n) = 0
  · simp [State.followUps, State.settle, h, inFreeOrder, followUp]
  · have h' : (s.lineActive n && s.outstanding (lineSource n) == 0) = false := by simpa using h
    simp [State.followUps, State.settle, h', inFreeOrder, h]

/-! ## The counter of free values is read by no arrival -/

/-- A state with another value of the counter. -/
def State.withChoices (s : State) (n : Nat) : State := { s with choices := n }

theorem raise_withChoices (s : State) (n : Nat) (i : Fin 4) (w0 w1 : Word) :
    (s.withChoices n).raise i w0 w1 = (s.raise i w0 w1).withChoices n := by
  have h : ∀ src, (s.withChoices n).entry src = s.entry src ∧ (s.withChoices n).underPurge src = s.underPurge src ∧
      (s.withChoices n).newestPending src = s.newestPending src ∧
      (s.withChoices n).outstanding src = s.outstanding src := fun _ => ⟨rfl, rfl, rfl, rfl⟩
  have h1 : (s.withChoices n).clearing = s.clearing := rfl
  have h2 : (s.withChoices n).freeSlot = s.freeSlot := rfl
  unfold State.raise
  simp only [h, h1, h2]
  repeat' split
  all_goals rfl

theorem resolve_withChoices (s : State) (n : Nat) (a : Arrival) :
    (s.withChoices n).resolve a = ((s.resolve a).1.withChoices n, (s.resolve a).2) := by
  have h : ∀ src, (s.withChoices n).entry src = s.entry src ∧ (s.withChoices n).underPurge src = s.underPurge src ∧
      (s.withChoices n).newestPending src = s.newestPending src ∧ (s.withChoices n).hasRoom src = s.hasRoom src :=
    fun _ => ⟨rfl, rfl, rfl, rfl⟩
  have h1 : (s.withChoices n).clearing = s.clearing := rfl
  have h2 : (s.withChoices n).freeSlot = s.freeSlot := rfl
  have h3 : (s.withChoices n).link = s.link := rfl
  have h4 : ∀ src, (s.withChoices n).countOverflow src = (s.countOverflow src).withChoices n := fun src => by
    exact raise_withChoices
      (State.setFault
        { s with
          pool :=
            { s.pool with
              overflow := s.pool.overflow.set src.val (satByte s.pool.overflow[src]) src.isLt } } .overflow) n
      overflowSource (BitVec.ofNat 16 src.val) ((satByte s.pool.overflow[src]).setWidth 16)
  unfold State.resolve State.allocateOrOverflow State.place
  simp only [h, h1, h2, h3, h4]
  repeat' split
  all_goals rfl

theorem followUp_withChoices (s : State) (n : Nat) (f : FollowUp) :
    followUp f (s.withChoices n) = (followUp f s).withChoices n := by
  cases f with
  | rearm m =>
    have h : (s.withChoices n).lineActive m = s.lineActive m ∧
        (s.withChoices n).outstanding (lineSource m) = s.outstanding (lineSource m) ∧
        (s.withChoices n).lineArrival m = s.lineArrival m := ⟨rfl, rfl, rfl⟩
    simp only [followUp, resolve_withChoices, h]
    split <;> rfl
  | raise i w0 w1 => exact raise_withChoices s n i w0 w1
  | arrival a => simp only [followUp, resolve_withChoices]

theorem foldl_followUp_withChoices (fs : List FollowUp) (s : State) (n : Nat) :
    fs.foldl (fun t f => followUp f t) (s.withChoices n) = (fs.foldl (fun t f => followUp f t) s).withChoices n := by
  induction fs generalizing s with
  | nil => rfl
  | cons f fs ih => simp only [List.foldl_cons, followUp_withChoices, ih]

theorem getElem_cons_eraseIdx_perm {α : Type} {l : List α} {k : Nat} (lt : k < l.length) :
    (l[k] :: l.eraseIdx k).Perm l := by
  rw [List.eraseIdx_eq_take_drop_succ]
  refine List.perm_middle.symm.trans ?_
  rw [← List.drop_eq_getElem_cons lt, List.take_append_drop]

/-- `run` on the elements one after another, whatever the counter of free values stands at before each. -/
def RunInOrder {α : Type} (run : α → State → State) : List α → State → State → Prop
  | [], s, t => t = s
  | x :: rest, s, t => ∃ n, RunInOrder run rest (run x { s with choices := n }) t

/-- A free order is some order of the elements, each run once (log 6). -/
theorem inFreeOrder_order {α : Type} (run : α → State → State) (fuel : Nat) (xs : List α) (s : State)
    (enough : xs.length ≤ fuel) :
    ∃ order : List α, order.Perm xs ∧ RunInOrder run order s (inFreeOrder run fuel xs s) := by
  induction fuel generalizing xs s with
  | zero =>
    obtain rfl : xs = [] := List.length_eq_zero_iff.mp (Nat.le_zero.mp enough)
    exact ⟨[], .rfl, rfl⟩
  | succ fuel ih =>
    match xs with
    | [] => exact ⟨[], .rfl, rfl⟩
    | [x] => exact ⟨[x], .rfl, s.choices, rfl⟩
    | x :: y :: rest =>
      obtain ⟨all, hall⟩ : ∃ all, x :: y :: rest = all := ⟨_, rfl⟩
      rw [hall] at enough ⊢
      have lt : Config.freeChoice s.choices % all.length < all.length := Nat.mod_lt _ (by simp [← hall])
      obtain ⟨order, perm, h⟩ := ih (all.eraseIdx (Config.freeChoice s.choices % all.length))
        (run (all[Config.freeChoice s.choices % all.length]) { s with choices := s.choices + 1 })
        (by rw [List.length_eraseIdx_of_lt lt]; omega)
      refine ⟨all[Config.freeChoice s.choices % all.length] :: order,
        (perm.cons _).trans (getElem_cons_eraseIdx_perm lt), s.choices + 1, ?_⟩
      have e : inFreeOrder run (fuel + 1) all s = inFreeOrder run fuel
          (all.eraseIdx (Config.freeChoice s.choices % all.length))
          (run (all.getD (Config.freeChoice s.choices % all.length) x) { s with choices := s.choices + 1 }) := by
        subst hall; rfl
      rw [e, List.getD, List.getElem?_eq_getElem lt, Option.getD_some]
      exact h

theorem settle_order {α : Type} (s : State) (run : α → State → State) (xs : List α) :
    ∃ order : List α, order.Perm xs ∧ RunInOrder run order s (s.settle run xs) :=
  inFreeOrder_order run _ _ s (Nat.le_refl _)

/-- What comes before a follow-up at the counter is not seen by it, so one value of the counter at the start will do. -/
theorem foldl_followUp_of_runInOrder {order : List FollowUp} {s t : State} (h : RunInOrder followUp order s t) :
    ∃ n, t = order.foldl (fun t f => followUp f t) (s.withChoices n) := by
  induction order generalizing s with
  | nil => exact ⟨s.choices, h⟩
  | cons f rest ih =>
    obtain ⟨m, h⟩ := h
    obtain ⟨n, h⟩ := ih h
    refine ⟨n, ?_⟩
    rw [h, List.foldl_cons, ← followUp_withChoices]
    rfl

/-- Follow-ups are taken in some order, those that pass without an arrival left out. -/
theorem followUps_order (s : State) (fs : List FollowUp) :
    ∃ order : List FollowUp, order.Perm
        (fs.filter fun
          | .rearm n => s.lineActive n && s.outstanding (lineSource n) == 0
          | _ => true) ∧
      ∃ n, s.followUps fs = order.foldl (fun t f => followUp f t) { s with choices := n } := by
  obtain ⟨order, perm, h⟩ := settle_order s followUp
    (fs.filter fun
      | .rearm n => s.lineActive n && s.outstanding (lineSource n) == 0
      | _ => true)
  exact ⟨order, perm, foldl_followUp_of_runInOrder h⟩

/-! ## Line Inputs -/

@[simp] theorem filterLength_setLine (s : State) (n m : Line) (l : LineInput) :
    (s.setLine n l).filterLength m = s.filterLength m := rfl

/-- All that a stable change can change (R21 to R23). -/
theorem stableChange_eq (s : State) (n : Line) (level : Bool) :
    ∃ pool qs xs faults fs, s.stableChange n level =
      { s.setLine n { s.line n with stable := level, candidate := none } with
        pool := pool, dispatcher := { s.dispatcher with queues := qs }, internals := xs, faults := faults
        transmitter := { s.transmitter with queue := fs } } := by
  unfold State.stableChange
  dsimp only
  split
  · exact resolve_eq (s.setLine n { s.line n with stable := level, candidate := none }) _
  · exact ⟨_, _, _, _, _, rfl⟩

/-- All that the taking of a candidate can change. -/
theorem takeCandidate_eq (s : State) (n : Line) :
    ∃ ls pool qs xs faults fs, s.takeCandidate n =
      { s with
        lines := ls, pool := pool, dispatcher := { s.dispatcher with queues := qs }, internals := xs
        faults := faults, transmitter := { s.transmitter with queue := fs } } := by
  unfold State.takeCandidate
  split
  · split
    · obtain ⟨pool, qs, xs, faults, fs, h⟩ := stableChange_eq s n _
      exact ⟨_, pool, qs, xs, faults, fs, h⟩
    · exact ⟨_, _, _, _, _, _, rfl⟩
  · exact ⟨_, _, _, _, _, _, rfl⟩

/-- A candidate is taken only when it is due. -/
theorem takeCandidate_of_not_due (s : State) (n : Line) (h : (s.line n).isDue = false) : s.takeCandidate n = s := by
  unfold LineInput.isDue at h
  unfold State.takeCandidate
  split at h <;> simp_all

/-- All that the taking of the due candidates before a COMMIT switch can change (R21, R26). -/
theorem takeDueLines_eq (s : State) :
    ∃ ls pool qs xs faults fs n, s.takeDueLines =
      { s with
        lines := ls, pool := pool, dispatcher := { s.dispatcher with queues := qs }, internals := xs
        faults := faults, transmitter := { s.transmitter with queue := fs }, choices := n } := by
  refine inFreeOrder_keeps
    (fun t => ∃ ls pool qs xs faults fs n, t =
      { s with
        lines := ls, pool := pool, dispatcher := { s.dispatcher with queues := qs }, internals := xs
        faults := faults, transmitter := { s.transmitter with queue := fs }, choices := n })
    (fun n t => t.takeCandidate n) ?_ _ _ _ ?_ ⟨_, _, _, _, _, _, _, rfl⟩
  · rintro _ n ⟨ls, pool, qs, xs, faults, fs, _, rfl⟩
    exact ⟨ls, pool, qs, xs, faults, fs, n, rfl⟩
  · rintro line _ _ ⟨ls, pool, qs, xs, faults, fs, n, rfl⟩
    obtain ⟨ls', pool', qs', xs', faults', fs', h⟩ := takeCandidate_eq
      { s with
        lines := ls, pool := pool, dispatcher := { s.dispatcher with queues := qs }, internals := xs
        faults := faults, transmitter := { s.transmitter with queue := fs }, choices := n } line
    exact ⟨ls', pool', qs', xs', faults', fs', n, h⟩

/-- With no candidate due, none is taken. -/
theorem takeDueLines_of_none (s : State) (h : s.dueLines = []) : s.takeDueLines = s := by
  simp [State.takeDueLines, State.settle, h, inFreeOrder]

/-! ## Freeing and link loss -/

/-- All that the growth of the grant can change (R171, R175). -/
theorem growGrant_eq (s : State) :
    ∃ due, s.growGrant =
      { s with
        receiver := { s.receiver with gOut := s.receiver.gOut + 1 }
        pair := { s.pair with crdDue := due } } := by
  unfold State.growGrant
  dsimp only
  split
  · exact ⟨true, rfl⟩
  · exact ⟨s.pair.crdDue, rfl⟩

/-- All that freeing a record in service can change before its follow-ups (R11). -/
theorem freeInService_eq (s : State) (src : Source) :
    ∃ rcv pair xs, (s.freeInService src).1 = { s with receiver := rcv, pair := pair, internals := xs } := by
  have grown : ∃ rcv pair xs, (if isChannel src then s.growGrant else s) =
      { s with receiver := rcv, pair := pair, internals := xs } := by
    split
    · obtain ⟨due, h⟩ := growGrant_eq s
      exact ⟨_, _, s.internals, h⟩
    · exact ⟨_, _, _, rfl⟩
  obtain ⟨rcv, pair, xs, h⟩ := grown
  unfold State.freeInService
  dsimp only
  rw [h]
  split
  · split
    · exact ⟨_, _, _, rfl⟩
    · exact ⟨_, _, _, rfl⟩
  · exact ⟨_, _, _, rfl⟩

/-- All that one record diverted or lost can change (R176). -/
theorem divertOrLose_eq (s : State) (f : Forwarded) :
    ∃ qs faults, s.divertOrLose f = { s with dispatcher := { s.dispatcher with queues := qs }, faults := faults } := by
  unfold State.divertOrLose
  split
  · exact ⟨_, s.faults, rfl⟩
  · exact ⟨s.dispatcher.queues, _, rfl⟩

/-! ## Frames -/

theorem withHunt_eq (s : State) (h : s.receiver.logic = .hunt) :
    ({ s with receiver := { s.receiver with logic := .hunt } } : State) = s := by
  cases s
  rename_i rcv _ _
  cases rcv
  simp_all

/-- A frame handed on while hunting (R145, R146). -/
theorem takeFrame_hunt (s : State) (f : Frame) (h : s.receiver.logic = .hunt) :
    s.takeFrame f =
      match f with
      | .hello session grant => s.takeHello session grant
      | .helloAck session grant => s.takeHelloAck session grant
      | .evt seq channel count payload => s.takeEvt seq channel.toFin count payload
      | .ack next grant => s.takeAck next grant
      | .nak next grant => s.takeNak next grant
      | .crd grant => s.takeCrd grant := by
  cases f <;> simp only [State.takeFrame, withHunt_eq s h]

/-- A *_TAKEN command while hunting is its frame handed on (log 16). -/
theorem receiveFrame_hunt (s : State) (f : Frame) (h : s.receiver.logic = .hunt) :
    s.receiveFrame f = s.takeFrame f := by
  simp [State.receiveFrame, FrameLogic.awaits, h]

/-! ## While RESET_N is low or high (R184) -/

theorem whileRunning_running (s : State) (f : State → State) (h : s.inReset = false) :
    whileRunning s f = .next (f s) := by
  simp [whileRunning, h]

theorem whileRunning_inReset (s : State) (f : State → State) (h : s.inReset = true) : whileRunning s f = .next s := by
  simp [whileRunning, h]

end Sys2Proof.Machine
end

