-- ==== Sys2Proof/Tests/Slice0.lean ====
section
/-!
SUPPORT. Tests of one step each on small states, the checks of `wellFormed`, and for each statement with hypotheses a
state and operands that meet them (`witness_…`).
-/
namespace Sys2Proof.Tests

open Sys2Proof.Machine

-- One theorem at a time: each kernel evaluation would otherwise hold a thread of its own.
set_option Elab.async false

/-! ## Small states -/

/-- A record of a source, for agents A0 and A1. -/
def sample (src : Source) (seq : Byte) (cls : Class) (slot : Slot) : EventRecord where
  source := src
  seq := seq
  cls := cls
  stamp := 0
  count := 1
  payload := .absent
  returns := 0
  escalated := false
  abandoned := false
  overdue := false
  forwarded := false
  snap :=
    { handle := 0x1234, targets := .agents 3, fallback := none, deadlineIndex := 0, policy := .note, retryLimit := 0 }
  retarget := none
  declined := 0
  remaining := none
  slot := slot
  serial := slot.val

/-- An enabled entry: agents A0 and A1, class 5, max outstanding 1. -/
def liveEntry (src : Source) : Entry := { Entry.default src with agentSet := 3, cls := 5, enable := true }

/-- An enabled entry that routes to LINK channel 2. -/
def linkEntry (src : Source) : Entry := { liveEntry src with agentSet := 0, link := true, channel := 2 }

def withEntry (src : Source) (e : Entry) (s : State) : State :=
  { s with table := { s.table with active := s.table.active.set src.val e src.isLt } }

def withSession (x : Session) (s : State) : State := { s with table := { s.table with session := x } }

def withPending (rs : List EventRecord) (s : State) : State := rs.foldl State.insertTail s

/-- Agent a ACTIVE with a service stack. -/
def withStack (a : Agent) (rs : List EventRecord) (s : State) : State :=
  s.setPort a { s.port a with state := .active, stack := rs }

def withAgent (a : Agent) (x : AgentState) (s : State) : State := s.setPort a { s.port a with state := x }

/-- The last tick ended the remaining time of agent a's top record. -/
def withTickDue (a : Agent) (s : State) : State := s.setPort a { s.port a with tickDue := true }

def withWalk (w : Walk) (s : State) : State := { s with command := { s.command with status := .busy, walk := some w } }

def withLink (x : LinkState) (s : State) : State := { s with link := { s.link with state := x } }

def withForward (fs : List Forwarded) (s : State) : State :=
  { s with transmitter := { s.transmitter with queue := fs } }

def withLogic (l : FrameLogic) (s : State) : State := { s with receiver := { s.receiver with logic := l } }

/-- A forwarded record of source 32 on channel 2. -/
def forwarded (seq : Byte) (slot : Slot) (linkSeq : Option Byte) : Forwarded where
  record :=
    { sample 32 seq 5 slot with
      forwarded := true
      snap := { (sample 32 seq 5 slot).snap with targets := .link 2 } }
  linkSeq := linkSeq

/-- The state a command leaves. -/
def after (c : Instr) (s : State) : State :=
  match exec c s with
  | .next t => t
  | .fault _ => s
  | .refused _ => s

/-- One record of a source on the stack of A0. -/
def inService (src : Source) : State := withStack 0 [sample src 0 5 0] State.reset

/-- The same with its deadline due, under a policy and a retry limit. -/
def expiring (src : Source) (policy : Policy) (limit : Fin 8) (overdue : Bool) : State :=
  let r := sample src 0 5 0
  withTickDue 0 (withStack 0
    [{ r with
        remaining := some 1, overdue := overdue
        snap := { r.snap with policy := policy, retryLimit := limit, fallback := some 3 } }] State.reset)

/-- Two sent records, link sequence numbers 0 and 1, and one queued, in UP. -/
def window : State :=
  let s := withLink .up (withForward [forwarded 0 0 (some 0), forwarded 1 1 (some 1), forwarded 2 2 none] State.reset)
  { s with
    transmitter := { s.transmitter with sendSeq := 2, firstSends := 2 }
    link := { s.link with peerGrant := 8 } }

/-! ## WellFormed -/

theorem test_wellFormed_badRequest :
    (Instr.badRequest 0 1).wellFormed = false ∧ (Instr.badRequest 0 2).wellFormed = false ∧
    (Instr.badRequest 0 3).wellFormed = false ∧ (Instr.badRequest 0 4).wellFormed = true := by decide

theorem test_wellFormed_badCommand :
    (Instr.badCommand 0 1 0).wellFormed = false ∧ (Instr.badCommand 0 10 0).wellFormed = false ∧
    (Instr.badCommand 0 0 0).wellFormed = true ∧ (Instr.badCommand 0 11 0).wellFormed = true := by decide

theorem test_wellFormed_registerWrite :
    (Instr.registerWrite 0x03 0).wellFormed = false ∧ (Instr.registerWrite 0x78 0).wellFormed = false ∧
    (Instr.registerWrite 0x81 0).wellFormed = false ∧ (Instr.registerWrite 0x97 0).wellFormed = false ∧
    (Instr.registerWrite 0xA4 0).wellFormed = false ∧ (Instr.registerWrite 0xC2 0).wellFormed = false ∧
    (Instr.registerWrite 0x80 0).wellFormed = true ∧ (Instr.registerWrite 0xB7 0).wellFormed = true := by decide

/-! ## One step each -/

theorem test_tick : (after .tick State.reset).timebase.tick = 1 := by decide +kernel

theorem test_pinChange_risingArrival :
    let t := after (.pinChange 7 true) (withEntry 7 (liveEntry 7) State.reset)
    ((t.queue 5).map fun r => (r.source, r.seq, r.slot)) = [(7, 0, 0)] ∧ t.outstanding 7 = 1 := by decide +kernel

theorem test_candidate_after_one_tick :
    let s := withEntry 7 { liveEntry 7 with filter := 1 } State.reset
    let t := after (.candidateStable 7) (after .tick (after (.pinChange 7 true) s))
    (t.line 7).stable = true ∧ t.outstanding 7 = 1 := by decide +kernel

theorem test_claim_returnsHandle :
    let t := after (.claim 0) (withAgent 0 .active (withPending [sample 32 0 5 0] State.reset))
    t.dataOut = 0x1234 ∧ (t.port 0).stack.length = 1 ∧ t.queue 5 = [] ∧ (t.port 0).lastResult = .claimed := by
  decide +kernel

theorem test_claim_noneWhenOff :
    (after (.claim 0) (withPending [sample 32 0 5 0] State.reset)).dataOut = 0xFFFF := by decide +kernel

theorem test_complete_freesSlot :
    let t := after (.complete 0 32 0) (inService 32)
    t.freeCount = 128 ∧ (t.port 0).lastResult = .done := by decide +kernel

theorem test_release_declines :
    ((after (.release 0 32 0) (inService 32)).queue 5).map (·.declined) = [1] := by decide +kernel

theorem test_sleep_refusedWhileServing :
    ((after (.sleep 0) (inService 32)).port 0).lastResult = .sleepRefused := by decide +kernel

theorem test_threshold_moduloSixteen :
    ((after (.thresholdWrite 2 0x0013) State.reset).port 2).threshold = 3 := by decide +kernel

theorem test_tickLoRead :
    let s := { State.reset with timebase := { State.reset.timebase with tick := 0x12345678 } }
    (after (.tickLoRead 1) s).dataOut = 0x5678 ∧ (after (.tickLoRead 1) s).timebase.latch = 0x1234 := by decide +kernel

theorem test_holdWrite_source17 : (after (.holdWrite 1 2) State.reset).held 17 = true := by decide +kernel

theorem test_faultWrite :
    (after (.faultWrite 0x0001) (State.reset.setFault .overflow)).faults.flags = 0 := by decide +kernel

theorem test_linkReserve_refusedAt17 :
    (after (.linkReserveWrite 17) State.reset).faultSet .reserveRefused = true ∧
    (after (.linkReserveWrite 16) State.reset).pool.linkReserve = 16 := by decide +kernel

theorem test_stagingEntryWrite :
    let s := withSession .opened State.reset
    (after (.stagingEntryWrite 2 0x8015) s).busRead 0x83 = 0x8015 := by decide +kernel

theorem test_registerWrite_actsAsItsRow :
    (after (.registerWrite 0x23 9) State.reset).port 1 = (after (.thresholdWrite 1 9) State.reset).port 1 := by
  decide +kernel

theorem test_editBegin : (after (.editBegin 0 0) State.reset).table.session = .opened := by decide +kernel

theorem test_commit_lowestInvalid :
    let s := withSession .opened State.reset
    let s1 := { s with table := { s.table with staging := s.table.staging.set 5 { Entry.default 5 with enable := true } } }
    let t := after (.commit 0 0) s1
    t.command.reason = .invalid ∧ t.command.result = 5 ∧ t.faultSet .commitInvalid = true := by decide +kernel

theorem test_regroup_movesToNewClass :
    let s := withWalk (.regroup ⟨15, 0⟩) (withEntry 32 (liveEntry 32) (withPending [sample 32 0 9 0] State.reset))
    let t := after (.regroupVisit .record) s
    t.queue 9 = [] ∧ (t.queue 5).length = 1 ∧ t.command.result = 1 := by decide +kernel

theorem test_post_allocated :
    let t := after (.post 0 0) (withEntry 32 (liveEntry 32) State.reset)
    t.command.status = .done ∧ t.command.result = 1 ∧ t.outstanding 32 = 1 := by decide +kernel

theorem test_post_overflow :
    let s := withPending [sample 32 0 5 0] (withEntry 32 (liveEntry 32) State.reset)
    let t := after (.post 0 0) s
    t.command.result = 3 ∧ t.pool.overflow[32] = 1 ∧ t.faultSet .overflow = true := by decide +kernel

theorem test_purge :
    let s := withWalk (.purge 32 ⟨15, 0⟩) (withPending [sample 32 0 5 0] State.reset)
    (after (.purgeVisit .record) s).freeCount = 128 ∧
    (after .purgeEnd (after (.purgeVisit .record) s)).command.status = .done := by decide +kernel

theorem test_agentReset :
    let t := after .agentResetTake (after (.agentReset 0 0) (inService 32))
    (t.queue 5).map (fun r => (r.abandoned, r.returns)) = [(true, 1)] ∧ (t.port 0).state = .draining ∧
    ((after .agentResetEnd t).port 0).state = .off := by decide +kernel

theorem test_clear_countsStacks :
    (after (.clear 0 0) (inService 32)).command.result = 1 := by decide +kernel

theorem test_linkStart : (after (.linkStart 0 0) State.reset).link.session = 1 := by decide +kernel

theorem test_expiry_retires :
    let t := after (.deadlineExpiry 0) (expiring 32 .handBack 0 false)
    t.freeCount = 128 ∧ (t.port 0).withdrawn = [⟨32, 0⟩] ∧ t.faultSet .retired = true := by decide +kernel

theorem test_crc_checkValue : crc [0x31, 0x32, 0x33, 0x34, 0x35, 0x36, 0x37, 0x38, 0x39] = 0x29B1 := by decide +kernel

theorem test_ack_freesOldest :
    ((after (.ackTaken 1 9) window).transmitter.queue.map (·.linkSeq)) = [some 1, none] := by decide +kernel

theorem test_nak_setsMark :
    let t := (after (.nakTaken 0 9) window).transmitter
    t.mark = some 0 ∧ t.retry = 1 ∧ t.timer = .stopped := by decide +kernel

theorem test_firstSend :
    let t := after .firstSend window
    t.transmitter.sendSeq = 3 ∧ t.transmitter.sent = 3 ∧
    t.pair.sending = some ⟨.evt 2 2 1 .absent, true⟩ := by decide +kernel

/-- The EVT begun before a NAK loads no timer at its end; the retransmission after it does. -/
theorem test_staleEvtEnd_loadsNoTimer :
    let s := after .evtSendEnd (after (.nakTaken 0 9) (after .firstSend window))
    s.transmitter.timer = .stopped ∧
    (after .evtSendEnd (after .retransmission s)).transmitter.timer = .running 200 := by decide +kernel

theorem test_evtTaken_delivers :
    let s := withLink .up (withEntry 46 (liveEntry 46) State.reset)
    let t := after (.evtTaken 0 2 1 .absent) s
    t.outstanding 46 = 1 ∧ t.receiver.expected = 1 ∧ t.pair.ackDue = true := by decide +kernel

theorem test_badCrc_counts :
    let t := after (.byteReceived 0) (withLogic (.check [0x33, 5] (some 0)) State.reset)
    t.faults.crcErrors = 1 ∧ t.faultSet .crc = true ∧ t.receiver.logic = .hunt := by decide +kernel

/-! ## Witnesses: the step, reset, Timebase and lines -/

theorem witness_StepRunsFrontCommand :
    ({ State.reset with pending := [.tick, .resetRelease] } : State).pending = .tick :: [.resetRelease] := by decide

theorem witness_EmptyQueueStepIsOneClkCycle :
    State.reset.pending = [] ∧ State.reset.inReset = false ∧
    State.reset.timebase.count.toNat < State.reset.timebase.divisor.toNat ∧
    (let s := { State.reset with timebase := { State.reset.timebase with count := 999 } }
     s.pending = [] ∧ s.inReset = false ∧ s.timebase.divisor.toNat ≤ s.timebase.count.toNat) ∧
    State.reset.powerOnReset.pending = [] ∧ State.reset.powerOnReset.inReset = true := by decide +kernel

theorem witness_ResetCommands :
    State.reset.powerOnReset.inReset = true ∧ State.reset.inReset = false ∧
    exec .powerOnReset State.reset = .next State.reset.powerOnReset ∧
    (∀ n, (State.reset.powerOnReset.line n).candidate = none) ∧
    (∀ n : Line, (State.reset.powerOnReset.entry (lineSource n)).enable = false ∧
      (State.reset.powerOnReset.entry (lineSource n)).filter = 0) :=
  ⟨rfl, rfl, rfl, by decide +kernel, by decide +kernel⟩

/-- Line 0 with a candidate its pin shows, line 1 with one it does not, line 2 with none; A0's top record with one tick
left, A1's with two, A2 with no record. -/
def ticking : State :=
  let r := sample 32 0 5 0
  let s := withStack 1 [{ r with remaining := some 2, slot := 1 }] (withStack 0 [{ r with remaining := some 1 }] State.reset)
  (s.setLine 0 { pin := true, stable := false, candidate := some ⟨true, 6, false⟩ }).setLine 1
    { pin := false, stable := false, candidate := some ⟨true, 0, false⟩ }

theorem witness_TickResult :
    ticking.inReset = false ∧ ticking.dueEvents = [] ∧
    (ticking.line 0).candidate = some ⟨true, 6, false⟩ ∧ (ticking.line 0).pin = true ∧
    (ticking.line 1).candidate = some ⟨true, 0, false⟩ ∧ (ticking.line 1).pin = false ∧
    (ticking.line 2).candidate = none ∧ (ticking.port 2).timerRunning = false ∧
    (ticking.port 0).state ≠ .draining ∧ (ticking.port 0).stack = [{ sample 32 0 5 0 with remaining := some 1 }] ∧
    (ticking.port 1).stack = [{ sample 32 0 5 0 with remaining := some 2, slot := 1 }] := by decide +kernel

/-- The events of one tick still to be taken: a candidate of line 3, A0's expiry, both link timers. -/
def unsettled : State :=
  let s := (expiring 32 .handBack 1 false).setLine 3 { pin := true, stable := false, candidate := some ⟨true, 1, true⟩ }
  { s with link := { s.link with timer := .expiring }, transmitter := { s.transmitter with timer := .expiring } }

theorem witness_TickResult_due :
    unsettled.inReset = false ∧
    unsettled.dueEvents = [.candidate 3, .expiry 0, .helloInterval, .ackTimer] := by decide +kernel

/-- The expiry that a tick left due is taken before the next tick counts. -/
theorem test_tick_takesDueFirst :
    let t := after .tick (expiring 32 .handBack 1 false)
    t.timebase.tick = 1 ∧ (t.port 0).stack = [] ∧ (t.queue 5).length = 1 := by decide +kernel

/-- Pin, stable level and candidate of line 3, its filter length 1. -/
def filtered (l : LineInput) : State := (withEntry 3 { liveEntry 3 with filter := 1 } State.reset).setLine 3 l

theorem witness_LineCommands :
    (State.reset.line 3).pin = false ∧
    (let s := filtered { pin := true, stable := false, candidate := some ⟨true, 0, false⟩ }
     s.inReset = false ∧ (s.line 3).pin ≠ false ∧ (s.line 3).stable = false ∧
     (s.line 3).candidate = some ⟨true, 0, false⟩) ∧
    (let s := filtered { pin := false, stable := false, candidate := none }
     (s.line 3).pin ≠ true ∧ (s.line 3).stable ≠ true ∧ (s.line 3).candidate = none ∧ s.filterLength 3 ≠ 0) ∧
    ((State.reset.line 3).pin ≠ true ∧ (State.reset.line 3).stable ≠ true ∧ (State.reset.line 3).candidate = none ∧
      State.reset.filterLength 3 = 0) ∧
    (let s := filtered { pin := true, stable := false, candidate := some ⟨true, 1, true⟩ }
     (s.line 3).candidate = some ⟨true, 1, true⟩ ∧ (⟨true, 1, true⟩ : Candidate).due = true ∧
     (s.line 3).pin ≠ false) := by decide +kernel

/-- A candidate that a tick made due became the stable level at that tick: a pin that falls afterwards does not take the
change and its arrival away, and forms a candidate of its own. -/
theorem test_pinChange_afterDueTick :
    let s := after .tick (filtered { pin := true, stable := false, candidate := some ⟨true, 0, false⟩ })
    let t := after (.pinChange 3 false) s
    (s.line 3).candidate = some ⟨true, 1, true⟩ ∧
    t.line 3 = { pin := false, stable := true, candidate := some ⟨false, 0, false⟩ } ∧ t.outstanding 3 = 1 := by
  decide +kernel

theorem witness_TriggerAndCaptureRule :
    (State.reset.entry (lineSource 16)).capture = false ∧
    ((withEntry 31 { liveEntry 31 with capture := true } State.reset).entry (lineSource 31)).capture = true := by
  decide +kernel

/-! ## Witnesses: arrivals -/

/-- Source 32 enabled under a coalesce code, with one pending record. -/
def coalescing (code : BitVec 2) : State :=
  withPending [sample 32 0 5 0] (withEntry 32 { liveEntry 32 with coalesce := code } State.reset)

theorem witness_ArrivalNotConsideredOrMerged :
    (State.reset.entry 32).enable = false ∧
    (let s := withWalk (.purge 32 ⟨15, 0⟩) (coalescing 0)
     (s.entry 32).enable = true ∧ s.underPurge 32 = true) ∧
    (let s := withWalk (.clear ⟨15, 0⟩) (coalescing 0)
     (s.entry 32).enable = true ∧ s.clearing = true) ∧
    (∀ code ∈ [(1 : BitVec 2), 2],
      let s := coalescing code
      (s.entry 32).enable = true ∧ s.underPurge 32 = false ∧ s.clearing = false ∧
      s.newestPending 32 = some (sample 32 0 5 0) ∧ (s.entry 32).coalesce = code) ∧
    (32 : Source).val < 60 := by decide +kernel

/-- Source 32 enabled with max outstanding 2; one record of it in slot 0 carries the counter's sequence number 0. -/
def carried : State :=
  withPending [sample 32 0 5 0] (withEntry 32 { liveEntry 32 with maxOutstanding := 2 } State.reset)

theorem witness_ArrivalPlaced_agents :
    (let s := withEntry 32 (liveEntry 32) State.reset
     (s.entry 32).enable = true ∧ s.underPurge 32 = false ∧ s.clearing = false ∧ (s.entry 32).coalesceMode = .never ∧
     (s.entry 32).route = .agents 3 ∧ s.outstanding 32 < s.maxOutstanding 32 ∧
     s.heldCount (partitionOf 32) < s.partitionSize (partitionOf 32) ∧ (∀ r ∈ s.allocated, r.slot ≠ 0) ∧
     ∀ r ∈ s.allocated, ¬(r.source = 32 ∧ r.seq = s.pool.nextSeq[32] + BitVec.ofNat 8 0)) ∧
    (let s := carried
     (s.entry 32).enable = true ∧ s.underPurge 32 = false ∧ s.clearing = false ∧ (s.entry 32).coalesceMode = .never ∧
     (s.entry 32).route = .agents 3 ∧ s.outstanding 32 < s.maxOutstanding 32 ∧
     s.heldCount (partitionOf 32) < s.partitionSize (partitionOf 32) ∧ (∀ r ∈ s.allocated, r.slot ≠ 1) ∧
     (∀ j : Slot, j < 1 → ∃ r ∈ s.allocated, r.slot = j) ∧
     (∀ r ∈ s.allocated, ¬(r.source = 32 ∧ r.seq = s.pool.nextSeq[32] + BitVec.ofNat 8 1)) ∧
     ∀ i < 1, ∃ r ∈ s.allocated, r.source = 32 ∧ r.seq = s.pool.nextSeq[32] + BitVec.ofNat 8 i) := by decide +kernel

theorem witness_ArrivalPlaced_link :
    ∀ x ∈ [(LinkState.stopped, true), (LinkState.down, true), (LinkState.down, false)],
      let s := withLink x.1 (withEntry 32 { linkEntry 32 with fallbackPresent := x.2 } State.reset)
      (s.entry 32).enable = true ∧ s.underPurge 32 = false ∧ s.clearing = false ∧ (s.entry 32).coalesceMode = .never ∧
      (s.entry 32).route = .link 2 ∧ s.outstanding 32 < s.maxOutstanding 32 ∧
      s.heldCount (partitionOf 32) < s.partitionSize (partitionOf 32) ∧ (∀ r ∈ s.allocated, r.slot ≠ 0) ∧
      (∀ r ∈ s.allocated, ¬(r.source = 32 ∧ r.seq = s.pool.nextSeq[32] + BitVec.ofNat 8 0)) ∧ s.link.state = x.1 ∧
      s.transmitter.queue.length < 16 ∧ (s.entry 32).fallback = (if x.2 then some 0 else none) := by decide +kernel

theorem witness_ArrivalOverflows :
    (let s := withPending [sample 32 0 5 0] (withEntry 32 (liveEntry 32) State.reset)
     (s.entry 32).enable = true ∧ s.underPurge 32 = false ∧ s.clearing = false ∧ (s.entry 32).coalesceMode = .never ∧
     s.maxOutstanding 32 ≤ s.outstanding 32) ∧
    (let s := withEntry 44 (liveEntry 44) { State.reset with pool := { State.reset.pool with linkReserve := 0 } }
     (s.entry 44).enable = true ∧ (s.entry 44).coalesceMode = .never ∧
     s.partitionSize (partitionOf 44) ≤ s.heldCount (partitionOf 44)) ∧
    (let s := withForward ((List.finRange 16).map fun i => forwarded 0 ⟨i.val, by omega⟩ none)
       (withEntry 33 (linkEntry 33) State.reset)
     (s.entry 33).enable = true ∧ (s.entry 33).coalesceMode = .never ∧ s.link.state ≠ .down ∧
     16 ≤ s.transmitter.queue.length ∧ (s.entry 33).route = .link 2) ∧
    (33 : Source).val < 60 ∧ (44 : Source).val < 60 := by decide +kernel

theorem witness_InternalRaisingTable :
    (State.reset.entry (internalSource 3)).enable = false ∧
    (let s := withEntry 63 { liveEntry 63 with coalesce := 1 } State.reset
     (s.entry (internalSource 3)).enable = true ∧ s.underPurge (internalSource 3) = false ∧ s.clearing = false ∧
     s.outstanding (internalSource 3) = 0 ∧ s.freeSlot = some 0 ∧
     (withWalk (.purge 63 ⟨15, 0⟩) s).underPurge (internalSource 3) = true ∧
     (withWalk (.clear ⟨15, 0⟩) s).clearing = true ∧
     (withPending [sample 63 0 5 0] s).newestPending (internalSource 3) = some (sample 63 0 5 0) ∧
     (withStack 0 [sample 63 0 5 0] s).newestPending (internalSource 3) = none ∧
     (withStack 0 [sample 63 0 5 0] s).outstanding (internalSource 3) ≠ 0) := by decide +kernel

/-! ## Witnesses: agent ports -/

/-- A0 in a state, with one record pending that it may claim. -/
def offered (x : AgentState) : State := withAgent 0 x (withPending [sample 32 0 5 0] State.reset)

theorem witness_EligibilityAndSelection :
    QueuesByClass (offered .active) ∧ (offered .active).selection 0 = some (sample 32 0 5 0) ∧
    (∃ r ∈ (offered .active).pendingRecords, (offered .active).eligible 0 r = true) := by
  unfold QueuesByClass
  decide +kernel

theorem witness_NotificationOutputs :
    (offered .asleep).inReset = false ∧ (offered .asleep).wakeCause 0 = true := by decide +kernel

theorem witness_ClaimResult :
    (∀ x ∈ [AgentState.off, .draining], ((offered x).port 0).state = x) ∧
    ((offered .asleep).walking = false ∧ ((offered .asleep).port 0).tickDue = false ∧
      (offered .asleep).selection 0 = some (sample 32 0 5 0)) ∧
    (withWalk (.clear ⟨15, 0⟩) (offered .active)).walking = true ∧
    (let s := withAgent 2 .active (offered .active)
     (s.port 2).state = .active ∧ s.walking = false ∧ ∀ r ∈ s.pendingRecords, s.eligible 2 r = false) := by
  decide +kernel

/-- A claim taken before a due expiry: the tick counts at the new top, the record below keeps its time. -/
theorem test_claim_beforeExpiry :
    let s := withPending [sample 33 0 9 1] (expiring 32 .handBack 1 false)
    let t := after (.claim 0) { s with table := { s.table with activeDeadlines := Vector.replicate 8 7 } }
    (t.port 0).tickDue = false ∧ (t.port 0).stack.map (·.remaining) = [some 6, some 1] := by decide +kernel

/-- A COMPLETE taken before a due expiry, over a record with n ticks left. -/
def beneath (n : Word) : State :=
  let r := sample 33 1 6 1
  withTickDue 0
    (withStack 0 [{ r with remaining := some 1 }, { sample 32 0 5 0 with remaining := some n }] State.reset)

theorem test_complete_beforeExpiry :
    (let t := after (.complete 0 33 1) (beneath 1)
     (t.port 0).tickDue = true ∧ (t.port 0).stack.map (·.remaining) = [some 1]) ∧
    (let t := after (.release 0 33 1) (beneath 2)
     (t.port 0).tickDue = false ∧ (t.port 0).stack.map (·.remaining) = [some 1]) := by decide +kernel

theorem witness_ClaimResult_due :
    let s := withPending [sample 33 0 9 1] (expiring 32 .handBack 1 false)
    (s.selection 0).isSome = true ∧ s.walking = false ∧ (s.port 0).tickDue = true := by decide +kernel

theorem witness_CompleteTopResult_due :
    ((beneath 1).port 0).tickDue = true ∧ ((beneath 1).port 0).state ≠ .draining ∧ (beneath 1).inReset = false := by
  decide +kernel

/-- A0 serving two records, one pair withdrawn. -/
def serving : State :=
  let s := withStack 0 [sample 33 1 6 1, sample 32 0 5 0] State.reset
  s.setPort 0 { s.port 0 with withdrawn := [⟨34, 2⟩] }

theorem witness_CompleteCheckOrder :
    ((withAgent 0 .draining serving).port 0).state = .draining ∧ (serving.port 0).state ≠ .draining ∧
    (serving.port 0).stack = [sample 33 1 6 1, sample 32 0 5 0] ∧ (sample 33 1 6 1).pair = ⟨33, 1⟩ ∧
    (sample 33 1 6 1).pair ≠ ⟨32, 0⟩ ∧ (sample 32 0 5 0).pair = ⟨32, 0⟩ ∧
    (∀ r ∈ (serving.port 0).stack, r.pair ≠ ⟨34, 2⟩) ∧ (⟨34, 2⟩ : Pair) ∈ (serving.port 0).withdrawn ∧
    (∀ r ∈ (serving.port 0).stack, r.pair ≠ ⟨35, 0⟩) ∧ (⟨35, 0⟩ : Pair) ∉ (serving.port 0).withdrawn := by
  decide +kernel

/-- For every source: the premises of CompleteTopResult and ReleaseTopResult, and of their clauses by kind. -/
theorem witness_CompleteTopResult_ReleaseTopResult :
    ∀ src : Source,
      ((inService src).port 0).state ≠ .draining ∧ ((inService src).port 0).tickDue = false ∧
      ((inService src).port 0).stack = [sample src 0 5 0] ∧ (inService src).inReset = false ∧
      ((sample src 0 5 0).source.val < 32 ∨ (lineOf src = none ∧ (src.val < 60 ∨ internalOf src ≠ none))) := by
  decide +kernel

theorem witness_AgentControlTable :
    ∀ code ∈ [(0 : BitVec 4), 4, 15], code ≠ 1 ∧ code ≠ 2 ∧ code ≠ 3 ∧ State.reset.inReset = false := by decide

theorem witness_ThresholdAndViewWrites_FaultWordReadAndWrite_TimebaseAccesses :
    State.reset.inReset = false := rfl

theorem witness_EmptyClaimView :
    CountsPositive State.reset ∧ (State.reset.port 0).stack = [] ∧
    CountsPositive (inService 63) ∧ ((inService 63).port 0).viewed ≠ none ∧
    (let s := after (.viewLevelWrite 0 1) (inService 63)
     (s.port 0).view = .fixed 1 ∧ (s.port 0).stack.length ≤ 1) ∧
    (serving.port 0).view = .top ∧ (serving.port 0).stack.length ≤ 4 ∧
    (serving.port 0).stack[0]? = some (sample 33 1 6 1) ∧
    (let s := after (.viewLevelWrite 0 0) serving
     (s.port 0).view = .fixed 0 ∧ (s.port 0).stack[1]? = some (sample 32 0 5 0) ∧
     1 + (0 : Fin 4).val + 1 = (s.port 0).stack.length) := by
  unfold CountsPositive
  decide +kernel

theorem witness_ExpiryHandsBackOrNotes :
    (∀ policy ∈ [Policy.handBack, .escalate],
      let s := expiring 32 policy 1 false
      (s.port 0).state ≠ .draining ∧ (s.port 0).tickDue = true ∧
      ∀ r ∈ (s.port 0).stack, r.remaining.isSome = true ∧ r.returns.val < r.snap.retryLimit.val ∧
        r.snap.policy = policy) ∧
    (∀ overdue ∈ [true, false],
      let s := expiring 32 .note 0 overdue
      (s.port 0).state ≠ .draining ∧ (s.port 0).tickDue = true ∧
      ∀ r ∈ (s.port 0).stack, r.remaining.isSome = true ∧ r.snap.policy = .note ∧ r.overdue = overdue) := by
  decide +kernel

theorem witness_ExpiryRetires :
    ∀ src ∈ [(0 : Source), 32, 43, 44, 59, 60],
      let s := expiring src .escalate 0 false
      (s.port 0).state ≠ .draining ∧ (s.port 0).tickDue = true ∧ (s.port 0).stack.length = 1 ∧
      ∀ r ∈ (s.port 0).stack, r.remaining.isSome = true ∧ r.snap.policy ≠ .note ∧
        r.snap.retryLimit.val ≤ r.returns.val ∧ r.source = src := by decide +kernel

/-! ## Witnesses: registers and commands -/

theorem witness_PlainRegisterWrites :
    ∀ address ∈ [(0x00 : Byte), 0x05, 0x7F, 0x85, 0xB2, 0xFF],
      State.reset.inReset = false ∧ hasOwnRow address = false ∧
      address ∉ ([0x80, 0xA8, 0xAB, 0xB5, 0xB6, 0xB7] : List Byte) := by decide

theorem witness_LinkRegisterWrites :
    State.reset.inReset = false ∧
    (State.reset.link.state = .stopped ∧ State.reset.heldCount .linkReserve ≤ 16 ∧
      State.reset.heldCount .general ≤ 124 - 16) ∧
    ¬((0x0011 : Word).extractLsb' 0 8).toNat ≤ 16 := by decide +kernel

theorem witness_StagingWriteResults :
    State.reset.inReset = false ∧ (withSession .opened State.reset).table.session = .opened ∧
    State.reset.table.session ≠ .opened := by decide +kernel

theorem witness_CommandsNotTaken :
    (withWalk (.clear ⟨15, 0⟩) State.reset).walking = true ∧ State.reset.walking = false ∧
    ∀ code ∈ [(0 : Byte), 11, 255], code.toNat = 0 ∨ 11 ≤ code.toNat := by decide +kernel

/-- A regroup walk in flight. -/
def regrouping : State := withWalk (.regroup ⟨15, 0⟩) (withSession .committing State.reset)

theorem witness_EditBeginResult_EditAbandonResult :
    (State.reset.walking = false ∧ State.reset.table.frozen = false ∧ State.reset.table.session = .closed) ∧
    ({ State.reset with table := { State.reset.table with frozen := true } } : State).table.frozen = true ∧
    (withSession .opened State.reset).table.session = .opened ∧
    UnitConsistent regrouping ∧ regrouping.table.session = .committing := by
  refine ⟨by decide +kernel, rfl, rfl, ⟨by decide +kernel, ?_, by decide +kernel, by decide +kernel⟩, rfl⟩
  exact ⟨fun _ => ⟨⟨15, 0⟩, rfl⟩, fun _ => rfl⟩

/-- A frozen part with a COMMIT waiting. -/
def frozen : State :=
  { State.reset with pending := [.commit 0 0], table := { State.reset.table with frozen := true } }

theorem witness_FreezeIsFinal :
    UnitConsistent frozen ∧ frozen.table.frozen = true ∧ (∃ t, step frozen = .next t) ∧
    frozen.pending.head? ≠ some .powerOnReset ∧ State.reset.walking = false ∧
    State.reset.table.session = .closed ∧ (withSession .opened State.reset).table.session = .opened := by
  refine ⟨⟨by decide +kernel, ?_, by decide +kernel, by decide +kernel⟩, rfl, ⟨_, rfl⟩, by decide, rfl, rfl, rfl⟩
  exact ⟨fun h => absurd h (by decide +kernel), fun ⟨p, h⟩ => absurd h (by simp [frozen, State.reset])⟩

/-- An OPEN session whose staging entry of a source is e. -/
def editing (src : Source) (e : Entry) : State :=
  let s := withSession .opened State.reset
  { s with table := { s.table with staging := s.table.staging.set src.val e src.isLt } }

theorem witness_CommitCommand_refused :
    (editing 5 { Entry.default 5 with enable := true }).walking = false ∧
    ((editing 5 { Entry.default 5 with enable := true }).table.staging[5]).invalid 5 = true ∧
    ∀ lower : Source, lower < 5 →
      ((editing 5 { Entry.default 5 with enable := true }).table.staging[lower]).invalid lower = false := by
  decide +kernel

/-- The switch of a COMMIT, as the statement writes it, of a session that makes line 5 a HIGH level line at a high pin. -/
def switching : State :=
  let s := (editing 5 { liveEntry 5 with trigger := 3 }).setLine 5 { pin := true, stable := true, candidate := none }
  { s with
    table :=
      { s.table with
        active := s.table.staging, activeDeadlines := s.table.stagingDeadlines, session := .committing } }

theorem witness_CommitCommand_switch :
    (∀ src : Source, (switching.table.staging[src]).invalid src = false) ∧
    (∀ n, (switching.line n).candidate = none) ∧
    (∀ m, m ≠ 5 → switching.lineActive m = false ∨ switching.outstanding (lineSource m) ≠ 0) ∧
    switching.lineActive 5 = true ∧ switching.outstanding (lineSource 5) = 0 ∧
    (∀ n, State.reset.lineActive n = false) := by decide +kernel

/-- An OPEN session that gives line 5 filter length 0 and line 6 filter length 4, with candidates at both, due or not. -/
def switchingFilters (due : Bool) : State :=
  let candidate : LineInput := { pin := true, stable := false, candidate := some ⟨true, 2, due⟩ }
  let s := ((editing 5 (liveEntry 5)).setLine 5 candidate).setLine 6 candidate
  { s with table := { s.table with staging := s.table.staging.set 6 { Entry.default 6 with filter := 4 } } }

theorem witness_CommitCommand_filters :
    ∀ due ∈ [true, false],
      let s := switchingFilters due
      s.inReset = false ∧ s.walking = false ∧ s.table.session = .opened ∧
      (∀ src : Source, (s.table.staging[src]).invalid src = false) ∧
      s.dueLines = (if due then [5, 6] else []) ∧ (s.line 5).candidate ≠ none ∧ (s.line 6).candidate ≠ none := by
  decide +kernel

theorem test_commit_candidates :
    let t := after (.commit 0 0) (switchingFilters false)
    (t.line 5).stable = true ∧ (t.line 5).candidate = none ∧ t.outstanding 5 = 1 ∧
    (t.line 6).candidate = some ⟨true, 2, false⟩ := by decide +kernel

/-- A stable change that the last tick completed is judged by the entry before the switch: RISING and enabled in the old
entry, disabled in the new one. -/
theorem test_commit_afterDueTick :
    let s := withSession .opened (filtered { pin := true, stable := false, candidate := some ⟨true, 1, true⟩ })
    let t := after (.commit 0 0) s
    (t.line 3).stable = true ∧ t.outstanding 3 = 1 ∧ (t.entry 3).enable = false := by decide +kernel

/-! ## Witnesses: walks -/

/-- Records of sources 32 (class 9) and 33 (class 5) pending, source 32 enabled in class 5. -/
def walked : State := withEntry 32 (liveEntry 32) (withPending [sample 32 0 9 0, sample 33 0 5 1] State.reset)

theorem witness_WalkPositionAndHeadInsertion :
    walked.nextVisit ⟨15, 0⟩ = some (⟨9, 0⟩, sample 32 0 9 0) ∧ walked.nextVisit ⟨5, 1⟩ = none ∧
    State.reset.command.walk = none ∧ regrouping.command.walk = some (.regroup ⟨15, 0⟩) ∧
    (withWalk (.purge 7 ⟨0, 0⟩) walked).command.walk = some (.purge 7 ⟨0, 0⟩) ∧
    (withWalk (.clear ⟨0, 0⟩) walked).command.walk = some (.clear ⟨0, 0⟩) := by decide +kernel

theorem witness_RegroupWalk :
    (let s := withWalk (.regroup ⟨15, 0⟩) walked
     let e := s.entry 32
     s.inReset = false ∧ s.nextVisit ⟨15, 0⟩ = some (⟨9, 0⟩, sample 32 0 9 0) ∧ e.link = false ∧ e.agentSet ≠ 0 ∧
     ({ e with enable := true } : Entry).invalid 32 = false ∧ e.cls.toFin ≠ (9 : Class)) ∧
    (let s := withWalk (.regroup ⟨8, 0⟩) walked
     s.nextVisit ⟨8, 0⟩ = some (⟨5, 0⟩, sample 33 0 5 1) ∧ (s.entry 33).agentSet = 0) ∧
    (let s := withWalk (.regroup ⟨5, 0⟩) (withEntry 33 (liveEntry 33) walked)
     s.nextVisit ⟨5, 0⟩ = some (⟨5, 0⟩, sample 33 0 5 1) ∧ (s.entry 33).cls.toFin = (5 : Class)) ∧
    (walked.queue 15).length ≤ 0 ∧ (14 : Class).val + 1 = (15 : Class).val ∧
    (walked.queue 1).length ≤ 0 ∧ (0 : Class).val + 1 = (1 : Class).val ∧ walked.nextVisit ⟨0, 0⟩ = none := by
  decide +kernel

theorem witness_PostResult :
    State.reset.inReset = false ∧ State.reset.walking = false ∧ State.reset.post.len ≠ 3 ∧
    (after (.registerWrite 0xB7 3) State.reset).post.len = 3 ∧ 11 < (12 : Byte).toNat ∧ (11 : Byte).toNat ≤ 11 ∧
    (43 : Source).val = 32 + (11 : Byte).toNat ∧ (32 : Source).val = 32 + (0 : Byte).toNat := by decide +kernel

theorem witness_PurgeWalk :
    (64 ≤ (64 : Byte).toNat ∧ (63 : Source).val = (63 : Byte).toNat) ∧
    (∀ src ∈ [(0 : Source), 31, 32, 43, 44, 59, 60],
      let s := withWalk (.purge src ⟨15, 0⟩) (withPending [sample src 0 9 0] State.reset)
      s.command.walk = some (.purge src ⟨15, 0⟩) ∧ s.nextVisit ⟨15, 0⟩ = some (⟨9, 0⟩, sample src 0 9 0) ∧
      (s.queue 15).length ≤ 0 ∧ s.nextVisit ⟨9, 1⟩ = none ∧
      (withWalk (.purge 1 ⟨15, 0⟩) s).nextVisit ⟨15, 0⟩ = some (⟨9, 0⟩, sample src 0 9 0) ∧ (1 : Source) ≠ src) := by
  decide +kernel

theorem witness_AgentResetWalk :
    4 ≤ (4 : Byte).toNat ∧ (3 : Agent).val = (3 : Byte).toNat ∧
    (∀ src : Source, ((withWalk (.agentReset 0) (inService src)).port 0).stack = [sample src 0 5 0]) ∧
    (withWalk (.agentReset 0) (inService 60)).command.walk = some (.agentReset 0) ∧
    ((withWalk (.agentReset 0) State.reset).port 0).stack = [] := by decide +kernel

theorem witness_ClearWalk :
    State.reset.walking = false ∧
    (let s := withWalk (.clear ⟨15, 0⟩) walked
     s.command.walk = some (.clear ⟨15, 0⟩) ∧ s.nextVisit ⟨15, 0⟩ = some (⟨9, 0⟩, sample 32 0 9 0) ∧
     (s.queue 15).length ≤ 0) ∧
    (let s := withWalk (.clear ⟨0, 0⟩) switching
     s.nextVisit ⟨0, 0⟩ = none ∧ s.lineActive 5 = true ∧ s.outstanding (lineSource 5) = 0 ∧
     ∀ m, m ≠ 5 → s.lineActive m = false ∨ s.outstanding (lineSource m) ≠ 0) ∧
    (∀ n, (withWalk (.clear ⟨0, 0⟩) State.reset).lineActive n = false) ∧
    (let s := withWalk (.clear ⟨0, 0⟩)
       ((withEntry 6 { liveEntry 6 with trigger := 3 } switching).setLine 6 { pin := true, stable := true, candidate := none })
     s.inReset = false ∧ s.nextVisit ⟨0, 0⟩ = none ∧
     (List.finRange 32).filter (fun n => s.lineActive n && s.outstanding (lineSource n) == 0) = [5, 6]) := by
  decide +kernel

/-! ## Witnesses: the Event Link -/

theorem witness_LinkStartAndStop_HandshakeFramesTaken :
    ∀ x ∈ [LinkState.stopped, .helloSent, .up, .down],
      let s := withLink x State.reset
      s.inReset = false ∧ s.walking = false ∧ s.receiver.logic = .hunt ∧ s.link.state = x ∧ s.link.session = 0 ∧
      (1 : Byte) ≠ s.link.session := by decide +kernel

/-- HELLO_SENT with the HELLO interval at its end after some attempts. -/
def helloDone (attempts : Fin 9) : State :=
  let s := withLink .helloSent State.reset
  { s with link := { s.link with attempts := attempts, timer := .expiring } }

/-- UP with the ACK timer at its end after some retries, the limit being 3. -/
def ackDone (retry : Fin 9) : State :=
  { window with transmitter := { window.transmitter with retry := retry, timer := .expiring } }

theorem witness_LinkTimerExpiries :
    (∀ attempts : Fin 9, (helloDone attempts).link.state = .helloSent ∧ (helloDone attempts).link.timer = .expiring ∧
      (helloDone attempts).link.attempts = attempts) ∧
    ((ackDone 2).link.state = .up ∧ (ackDone 2).transmitter.timer = .expiring ∧
      (satFin (ackDone 2).transmitter.retry).val ≤ (ackDone 2).params.retries.toNat ∧
      0 < (ackDone 2).transmitter.sent ∧ (ackDone 2).transmitter.queue.findSome? (·.linkSeq) = some 0) ∧
    (ackDone 3).params.retries.toNat < (satFin (ackDone 3).transmitter.retry).val := by decide +kernel

theorem witness_EntryIntoDown :
    State.reset.transmitter.queue = [] ∧
    (let r := { (forwarded 0 0 none).record with
        snap := { (forwarded 0 0 none).record.snap with fallback := some 1 } }
     (withForward [⟨r, none⟩] State.reset).transmitter.queue = [⟨r, none⟩] ∧ r.snap.fallback = some 1 ∧
     r.declined = 0) ∧
    (withForward [forwarded 0 0 none] State.reset).transmitter.queue = [⟨(forwarded 0 0 none).record, none⟩] ∧
    (forwarded 0 0 none).record.snap.fallback = none ∧ 32 ≤ (forwarded 0 0 none).record.source.val := by
  decide +kernel

/-- UP with two forwarded records with a fallback, and between them one of line 5 without. -/
def losing : State :=
  let diverted (k : Slot) : EventRecord :=
    let r := (forwarded 0 k none).record
    { r with snap := { r.snap with fallback := some 1 } }
  let lost : EventRecord := { (forwarded 0 2 none).record with source := 5 }
  withForward [⟨diverted 0, none⟩, ⟨lost, none⟩, ⟨diverted 1, none⟩] (withLink .up State.reset)

theorem test_down_divertsInOrder_countsLost :
    let t := losing.enterDown .retriesExhausted
    (t.queue 5).map (·.slot) = [0, 1] ∧ t.faults.linkLost = 1 ∧ t.outstanding 5 = 0 ∧
    t.transmitter.queue = [] := by decide +kernel

/-- UP with only one kind of request due. -/
def dueOnly (k : FrameKind) : State :=
  let s := withLink .up State.reset
  { s with
    pair :=
      { s.pair with
        helloDue := decide (k = .hello), helloAckDue := decide (k = .helloAck), nakDue := decide (k = .nak)
        ackDue := decide (k = .ack), crdDue := decide (k = .crd) } }

theorem witness_ArbiterAndControlFrames :
    ∀ k ∈ [FrameKind.hello, .helloAck, .nak, .ack, .crd],
      (dueOnly k).inReset = false ∧ (dueOnly k).pair.free = true ∧ (dueOnly k).nextRequest = some k := by
  decide +kernel

theorem witness_EventFrameSends :
    (window.pair.free = true ∧ window.nextRequest = some .evt ∧ window.transmitter.mark = none ∧
      window.transmitter.queue = [forwarded 0 0 (some 0), forwarded 1 1 (some 1)] ++ ⟨(forwarded 2 2 none).record, none⟩ :: [] ∧
      (∀ f ∈ [forwarded 0 0 (some 0), forwarded 1 1 (some 1)], f.linkSeq ≠ none) ∧
      (forwarded 2 2 none).record.snap.targets = .link 2) ∧
    (let s := { window with transmitter := { window.transmitter with mark := some 1 } }
     s.pair.free = true ∧ s.nextRequest = some .evt ∧ s.transmitter.mark = some 1 ∧
     s.transmitter.queue.find? (fun f => f.linkSeq == some 1) = some ⟨(forwarded 1 1 none).record, some 1⟩) ∧
    (after .helloSend (dueOnly .hello)).pair.sending = some ⟨.hello 0 8, true⟩ ∧
    (after (.linkStop 0 0) (after .helloSend (dueOnly .hello))).pair.sending = some ⟨.hello 0 8, false⟩ ∧
    (let s := after .firstSend window
     s.pair.sending = some ⟨.evt 2 2 1 .absent, true⟩ ∧ s.transmitter.timer = .stopped ∧ 0 < s.transmitter.sent) ∧
    (let s := withForward [] (after .firstSend window)
     s.pair.sending = some ⟨.evt 2 2 1 .absent, true⟩ ∧ s.transmitter.sent = 0) ∧
    (after (.nakTaken 0 9) (after .firstSend window)).pair.sending = some ⟨.evt 2 2 1 .absent, false⟩ := by
  decide +kernel

/-- k = 0, 1, 2 (all the sent records) and 3 (more than the sent records). -/
theorem witness_AckAndNakResults :
    window.inReset = false ∧ window.receiver.logic = .hunt ∧ window.link.state = .up ∧
    (window.transmitter.queue.findSome? (·.linkSeq)).getD window.transmitter.sendSeq = 0 ∧
    window.transmitter.sent = 2 ∧ ((2 : Byte) - 0).toNat = 2 ∧ ((3 : Byte) - 0).toNat = 3 ∧
    (window.transmitter.queue.drop 1).countP (·.linkSeq.isSome) = 1 ∧
    (window.transmitter.queue.drop 2).countP (·.linkSeq.isSome) = 0 ∧
    (withLink .up State.reset).transmitter.sent = 0 := by decide +kernel

theorem witness_CreditTakenAndFramesIgnored :
    State.reset.inReset = false ∧ State.reset.receiver.logic = .hunt ∧ State.reset.link.state ≠ .up ∧
    (withLink .up State.reset).link.state = .up := by decide +kernel

theorem witness_EventFramesTaken :
    (let s := withLink .up (withEntry 46 (liveEntry 46) State.reset)
     s.heldCount .linkReserve < s.pool.linkReserve.toNat ∧ s.receiver.expected = 0 ∧
     (s.resolve ⟨46, .absent, 1⟩).2.takesSlot = true) ∧
    (let s := withLink .up State.reset
     s.heldCount .linkReserve < s.pool.linkReserve.toNat ∧ (s.resolve ⟨46, .absent, 1⟩).2.takesSlot = false ∧
     s.pair.ackDue = false ∧ s.pair.nakDue = false ∧ s.pair.crdDue = false) ∧
    (let s := { State.reset with pool := { State.reset.pool with linkReserve := 0 } }
     ¬s.heldCount .linkReserve < s.pool.linkReserve.toNat) ∧
    ((0 : Byte) - 0xFF).toNat = 1 ∧ ((0 : Byte) - 0xFC).toNat = 4 ∧ ((0 : Byte) - 0xFB).toNat = 5 ∧
    (dueOnly .crd).pair.crdDue = true := by decide +kernel

theorem witness_ReceivedBytes :
    ∀ l ∈ [FrameLogic.hunt, .kind, .body [0x11], .body [0x32, 7], .body [0x33], .body [0x21], .body [0x21, 0, 0],
        .body [0x21, 0, 0, 1], .body [0x21, 0, 0, 1, 1], .body [0x21, 0, 0, 1, 1, 7], .check [0x33, 5] none,
        .check [0x33, 5] (some 0), .check [0x21, 0, 16, 1, 0] (some 0)],
      (withLogic l State.reset).inReset = false ∧ (withLogic l State.reset).receiver.logic = l ∧
      (0x00 : Byte) ++ (0x00 : Byte) ≠ crc [0x33, 5] ∧ 15 < (16 : Byte).toNat := by decide +kernel

/-- The second CRC byte of a good frame. -/
theorem witness_ReceivedBytes_good :
    (withLogic (.check (Frame.crd 5).covered (some ((crc (Frame.crd 5).covered).extractLsb' 0 8))) State.reset).receiver.logic =
      .check (Frame.crd 5).covered (some ((crc (Frame.crd 5).covered).extractLsb' 0 8)) := rfl

theorem witness_FramesReceivedAsSent : State.reset.inReset = false ∧ State.reset.receiver.logic = .hunt := ⟨rfl, rfl⟩

/-! ## Witnesses: invariants -/

/-- A state of the middle of a run with a COMPLETE waiting: A0 serving, a record pending, the link window of `window`. -/
def busy : State :=
  { withPending [sample 34 0 9 4] (withStack 0 [sample 35 0 6 5] window) with pending := [.complete 0 35 0] }

/-- For StepKeepsSlotsDistinct, StepKeepsQueuesByClass and StepKeepsPairsDistinct. -/
theorem witness_invariants_distinct :
    SlotsDistinct busy ∧ QueuesByClass busy ∧ PairsDistinct busy ∧ (∃ t, step busy = .next t) := by
  refine ⟨by unfold SlotsDistinct; decide +kernel, by unfold QueuesByClass; decide +kernel,
    by unfold PairsDistinct; decide +kernel, ⟨_, rfl⟩⟩

/-- For StepKeepsStacksAndWithdrawnLists and StepKeepsRecordFields; `busy` takes a step, as above. -/
theorem witness_invariants_ports :
    StacksOrdered busy ∧ StackPermitted busy ∧ AsleepEmpty busy ∧ WithdrawnBounded busy ∧ RemainingInService busy ∧
    CountsPositive busy := by
  unfold StacksOrdered StackPermitted AsleepEmpty WithdrawnBounded RemainingInService CountsPositive
  decide +kernel

/-- A0 serving a record of source 62 that was raised again, a pair withdrawn, a forwarded record, a COMPLETE waiting. -/
def raisedAgain : State :=
  let s := withForward [forwarded 0 1 none] (inService 62)
  let s1 := (s.setInternal 2 { raisedAgain := true, latest0 := 1, latest1 := 2 }).setPort 0
    { s.port 0 with withdrawn := [⟨34, 2⟩] }
  { s1 with pending := [.complete 0 62 0] }

/-- For the further clauses of StepKeepsStacksAndWithdrawnLists, StepKeepsForwardWindow and StepKeepsRecordFields. -/
theorem witness_invariants_withdrawn_forward_raised :
    PairsDistinct raisedAgain ∧ WithdrawnOffStack raisedAgain ∧ PartitionsBounded raisedAgain ∧
    ActiveValid raisedAgain ∧ ForwardLocal raisedAgain ∧ RaisedInService raisedAgain ∧
    (raisedAgain.port 0).withdrawn ≠ [] ∧ raisedAgain.forwardRecords ≠ [] ∧
    (raisedAgain.internal 2).raisedAgain = true ∧ ∃ t, step raisedAgain = .next t := by
  refine ⟨by unfold PairsDistinct; decide +kernel, by unfold WithdrawnOffStack; decide +kernel,
    by unfold PartitionsBounded; decide +kernel, by unfold ActiveValid; decide +kernel, ?_,
    by unfold RaisedInService; decide +kernel, by decide +kernel, by decide +kernel, by decide +kernel, ⟨_, rfl⟩⟩
  intro r h
  obtain rfl : r = (forwarded 0 1 none).record := List.mem_singleton.mp h
  exact ⟨by decide, rfl, 2, rfl⟩

/-- For StepKeepsForwardWindow. -/
theorem witness_invariants_window : ForwardWindow busy := by
  refine ⟨by decide +kernel, by decide +kernel, by decide +kernel, by decide +kernel, fun m h => ?_⟩
  have : busy.transmitter.mark = none := by decide +kernel
  rw [this] at h
  contradiction

/-- For StepKeepsCounts. -/
theorem witness_invariants_counts : PartitionsBounded busy ∧ ActiveValid busy ∧ OutstandingBounded busy := by
  unfold PartitionsBounded ActiveValid OutstandingBounded
  decide +kernel

/-- For ThresholdAndViewWrites and PlainRegisterWrites: `busy`, above, meets the bounds these name. -/
theorem witness_readViews :
    busy.inReset = false ∧ busy.pendingRecords ≠ [] ∧ (busy.port 0).stack ≠ [] ∧
    (let s := after (.registerWrite 0xAB 0x0009) busy
     (s.queue s.dispatcher.qselClass)[s.dispatcher.qselPosition.val]? = some (sample 34 0 9 4)) ∧
    (busy.queue busy.dispatcher.qselClass).length ≤ busy.dispatcher.qselPosition.val := by decide +kernel

theorem test_readViews :
    let s := after (.registerWrite 0xAB 0x0009) busy
    s.busRead 0x05 = 0x0611 ∧ s.busRead 0xAC = 0x0200 ∧ s.busRead 0xAD = 1 ∧ s.busRead 0xAE = 0x0022 ∧
    s.busRead 0xAF = 0x0009 ∧ s.busRead 0xB0 = 0x087B ∧ s.busRead 0xB1 = 0x0005 ∧ s.busRead 0xC4 = 0x0002 ∧
    s.busRead 0xC6 = 0x0608 ∧ s.busRead 0xC7 = 0x0202 ∧ s.busRead 0xC8 = 0x0203 := by decide +kernel

/-- For StepKeepsUnitConsistent. -/
theorem witness_invariants_unit :
    UnitConsistent { frozen with pending := [.freeze 0 0] } ∧
    ∃ t, step { frozen with pending := [.freeze 0 0] } = .next t := by
  refine ⟨⟨by decide +kernel, ?_, by decide +kernel, by decide +kernel⟩, ⟨_, rfl⟩⟩
  exact ⟨fun h => absurd h (by decide +kernel), fun ⟨p, h⟩ => absurd h (by simp [frozen, State.reset])⟩

end Sys2Proof.Tests
end

section
/-!
PROOF. The notification outputs (O21: R78 to R80) and the claim view (O22: R75 to R77, R197): how a word of an agent's
page is read, how the fields of a word add up, which record the view shows, and what wakes an agent.
-/
namespace Sys2Proof.Machine

/-! ## Reading an agent page (R180, R196) -/

/-- Page a starts at address 32a; its 32 words are read by `State.readPage` (R196). -/
theorem busRead_page (s : State) (a : Agent) {off : Nat} (running : s.inReset = false) (bound : off < 32) :
    s.busRead (BitVec.ofNat 8 (32 * a.val + off)) = s.readPage a off := by
  have address : (BitVec.ofNat 8 (32 * a.val + off)).toNat = 32 * a.val + off := by
    simp only [BitVec.toNat_ofNat]
    omega
  have page : (32 * a.val + off) / 32 = a.val := by omega
  have offset : (32 * a.val + off) % 32 = off := by omega
  have low : 32 * a.val + off < 0x80 := by omega
  simp [State.busRead, running, address, page, offset, low]

theorem busRead_wakeCause (s : State) (a : Agent) (running : s.inReset = false) :
    s.busRead (BitVec.ofNat 8 (32 * a.val + 7)) = bitAt (s.wakeCause a) 0 :=
  busRead_page s a running (by decide)

/-- The claim view is the ten words from offset 8 (R76, R197). -/
theorem busRead_claimView (s : State) (a : Agent) {i : Nat} (running : s.inReset = false) (bound : i ≤ 9) :
    s.busRead (BitVec.ofNat 8 (32 * a.val + (8 + i))) = (s.port a).claimView i := by
  rw [busRead_page s a running (by omega)]
  match i, bound with
  | 0, _ | 1, _ | 2, _ | 3, _ | 4, _ | 5, _ | 6, _ | 7, _ | 8, _ | 9, _ => rfl

/-! ## Adding a field to a word (R197) -/

theorem toNat_placed {n start : Nat} (fits : n * 2 ^ start < 65536) : (placed n start).toNat = n * 2 ^ start := by
  have small : n < 65536 := Nat.lt_of_le_of_lt (Nat.le_mul_of_pos_right n (Nat.two_pow_pos start)) fits
  simp [placed, Nat.shiftLeft_eq, Nat.mod_eq_of_lt small, Nat.mod_eq_of_lt fits]

theorem toNat_placed_zero {n : Nat} (fits : n < 65536) : (placed n 0).toNat = n := by
  rw [toNat_placed (by omega), Nat.pow_zero, Nat.mul_one]

/-- A field placed above the bits of a word that are in use adds its number at its bit. -/
theorem toNat_or_placed {w : Word} {v n start : Nat} (value : w.toNat = v) (below : v < 2 ^ start)
    (fits : n * 2 ^ start < 65536) : (w ||| placed n start).toNat = v + n * 2 ^ start := by
  rw [BitVec.toNat_or, value, toNat_placed fits, Nat.or_comm, Nat.mul_comm, ← Nat.two_pow_add_eq_or_of_lt below,
    Nat.add_comm]

/-- A flag is a field of one bit. -/
theorem bitAt_eq_placed (b : Bool) (i : Nat) : bitAt b i = placed b.toNat i := by
  cases b <;> simp [bitAt, placed]

/-! ## The words of a record (R76, R197) -/

theorem toNat_pairWord (x : Pair) : (pairWord x).toNat = x.source.val + 256 * x.seq.toNat := by
  have source : (placed x.source.val 0).toNat = x.source.val := toNat_placed_zero (by omega)
  rw [pairWord, toNat_or_placed source (by omega) (by omega)]
  omega

theorem payloadLen_le (d : Payload) : payloadLen d ≤ 2 := by
  cases d <;> simp [payloadLen]

theorem toNat_infoWord (r : EventRecord) {level : Nat} (depth : level < 4) :
    (infoWord r level).toNat = r.cls.val + 16 * r.returns.val + 256 * payloadLen r.payload + 4096 * level := by
  have length := payloadLen_le r.payload
  have cls : (placed r.cls.val 0).toNat = r.cls.val := toNat_placed_zero (by omega)
  have returns := toNat_or_placed (n := r.returns.val) (start := 4) cls (by omega) (by omega)
  have payload := toNat_or_placed (n := payloadLen r.payload) (start := 8) returns (by omega) (by omega)
  rw [infoWord, toNat_or_placed payload (by omega) (by omega)]
  omega

/-- The retarget field of CV_STATE: agent at 13–12, present at 14 (R197). -/
def retargetField : Option Agent → Nat
  | none => 0
  | some b => 4096 * b.val + 16384

theorem toNat_stateWord (r : EventRecord) :
    (stateWord r).toNat =
      r.count.toNat + r.escalated.toNat * 256 + r.abandoned.toNat * 512 + r.overdue.toNat * 1024 +
        r.forwarded.toNat * 2048 + retargetField r.retarget := by
  have := Bool.toNat_le r.escalated
  have := Bool.toNat_le r.abandoned
  have := Bool.toNat_le r.overdue
  have := Bool.toNat_le r.forwarded
  have count : (placed r.count.toNat 0).toNat = r.count.toNat := toNat_placed_zero (by omega)
  have escalated := toNat_or_placed (n := r.escalated.toNat) (start := 8) count (by omega) (by omega)
  have abandoned := toNat_or_placed (n := r.abandoned.toNat) (start := 9) escalated (by omega) (by omega)
  have overdue := toNat_or_placed (n := r.overdue.toNat) (start := 10) abandoned (by omega) (by omega)
  have forwarded := toNat_or_placed (n := r.forwarded.toNat) (start := 11) overdue (by omega) (by omega)
  simp only [stateWord, bitAt_eq_placed]
  cases r.retarget with
  | none => exact (congrArg BitVec.toNat BitVec.or_zero).trans forwarded
  | some b =>
    have retarget := toNat_or_placed (n := b.val) (start := 12) forwarded (by omega) (by omega)
    have present := toNat_or_placed (n := true.toNat) (start := 14) retarget (by omega) (by decide)
    dsimp only [retargetField]
    rw [← BitVec.or_assoc, present, Bool.toNat_true]
    omega

/-- The count field of CV_STATE is the record's count. -/
theorem countField_stateWord (r : EventRecord) : (stateWord r).extractLsb' 0 8 = r.count := by
  have multiple : retargetField r.retarget % 256 = 0 := by
    cases r.retarget with
    | none => rfl
    | some b => simp only [retargetField]; omega
  apply BitVec.eq_of_toNat_eq
  rw [BitVec.extractLsb'_toNat, Nat.shiftRight_zero, toNat_stateWord]
  omega

/-! ## The record the claim view shows (R75, R77) -/

/-- R77: the view is empty when the stack is, or when its fixed level is not below the depth. -/
theorem viewed_eq_none_iff (p : Port) :
    p.viewed = none ↔ p.stack = [] ∨ ∃ l : Fin 4, p.view = .fixed l ∧ p.stack.length ≤ l.val := by
  unfold Port.viewed
  cases p.view with
  | top => simp
  | fixed l =>
    have empty : p.stack = [] → p.stack.length ≤ l.val := fun h => by simp [h]
    simpa using empty

/-- R75: TOP shows the top record, a fixed level the record at that level, counted from the bottom of the stack. -/
theorem viewed_eq_some {p : Port} {i : Nat} {r : EventRecord} (at_i : p.stack[i]? = some r)
    (shown : (p.view = .top ∧ i = 0) ∨ ∃ l : Fin 4, p.view = .fixed l ∧ i + l.val + 1 = p.stack.length) :
    p.viewed = some (r, p.stack.length - 1 - i) := by
  obtain ⟨top, rfl⟩ | ⟨l, fixed, level⟩ := shown
  · simp [Port.viewed, top, List.head?_eq_getElem?, at_i]
  · have mirrored : p.stack.length - 1 - l.val = i := by omega
    have same : p.stack.length - 1 - i = l.val := by omega
    simp [Port.viewed, fixed, List.getElem?_reverse (by omega : l.val < p.stack.length), mirrored, at_i, same]

theorem mem_stack_of_viewed {p : Port} {r : EventRecord} {level : Nat} (shown : p.viewed = some (r, level)) :
    r ∈ p.stack := by
  unfold Port.viewed at shown
  split at shown
  · obtain ⟨x, top, eq⟩ := Option.map_eq_some_iff.mp shown
    cases eq
    exact List.mem_of_head? top
  · obtain ⟨x, fixed, eq⟩ := Option.map_eq_some_iff.mp shown
    cases eq
    exact List.mem_reverse.mp (List.mem_of_getElem? fixed)

/-- R77: the empty view shows source 0x3F and 0 in every other word. -/
theorem claimView_of_empty {p : Port} (empty : p.viewed = none) (i : Nat) :
    p.claimView i = if i = 0 then 0x003F else 0 := by
  simp [Port.claimView, empty]

/-- R77: a record on a stack is allocated, so its count is at least 1. -/
theorem count_ne_zero_of_viewed {s : State} {a : Agent} {r : EventRecord} {level : Nat} (counts : CountsPositive s)
    (shown : (s.port a).viewed = some (r, level)) : r.count ≠ 0 := by
  have stacked : r ∈ s.stackedRecords := (mem_stackedRecords s r).mpr ⟨a, mem_stack_of_viewed shown⟩
  exact counts r (List.mem_append_right _ (List.mem_append_left _ stacked))

/-- R75, R76, R197: the ten words of the view of a record. -/
theorem claimView_of_viewed {p : Port} {r : EventRecord} {level : Nat} (shown : p.viewed = some (r, level)) :
    p.claimView 0 = pairWord r.pair ∧ p.claimView 1 = r.snap.handle ∧ p.claimView 2 = infoWord r level ∧
    p.claimView 3 = stateWord r ∧ p.claimView 4 = r.stamp.extractLsb' 0 16 ∧
    p.claimView 5 = r.stamp.extractLsb' 16 16 ∧ p.claimView 6 = payloadWord0 r.payload ∧
    p.claimView 7 = payloadWord1 r.payload ∧ p.claimView 8 = r.remaining.getD 0 ∧
    p.claimView 9 = placed r.slot.val 0 := by
  simp [Port.claimView, shown]

/-- Settles O22: the empty view by `viewed_eq_none_iff`, the words of a record by `claimView_of_viewed`. -/
theorem emptyClaimView : Obligations.EmptyClaimView := by
  unfold Obligations.EmptyClaimView
  intro s a running counts p empty
  have none_iff : p.viewed = none ↔ empty := viewed_eq_none_iff p
  have read {k : Nat} (bound : k ≤ 9) : s.busRead (BitVec.ofNat 8 (32 * a.val + (8 + k))) = p.claimView k :=
    busRead_claimView s a running bound
  refine ⟨none_iff, fun isEmpty => ⟨?_, fun i low high => ?_⟩, fun notEmpty => ?_,
    fun depth i r at_i shown => ?_⟩
  · exact (read (Nat.zero_le 9)).trans (claimView_of_empty (none_iff.mpr isEmpty) 0)
  · obtain ⟨k, rfl⟩ := Nat.exists_eq_add_of_le low
    rw [show 9 + k = 8 + (k + 1) by omega, read (by omega), claimView_of_empty (none_iff.mpr isEmpty)]
    exact if_neg (Nat.succ_ne_zero k)
  · obtain ⟨⟨r, level⟩, shown⟩ := Option.ne_none_iff_exists'.mp (mt none_iff.mp notEmpty)
    obtain ⟨-, -, -, state, -⟩ := claimView_of_viewed shown
    rw [read (k := 3) (by decide), state, countField_stateWord]
    exact count_ne_zero_of_viewed counts shown
  · intro word bit
    obtain ⟨pair, handle, info, state, stamp0, stamp1, data0, data1, time, slot⟩ :=
      claimView_of_viewed (viewed_eq_some at_i shown)
    have shows {w : Word} (k : Fin 10) (content : p.claimView k = w) : word k = w := by
      rw [← content, ← read (by omega), ← Nat.add_assoc]
    have number {w : Word} {n : Nat} (k : Fin 10) (content : p.claimView k = w) (value : w.toNat = n) :
        (word k).toNat = n := by
      rw [shows k content, value]
    refine ⟨number 0 pair (toNat_pairWord r.pair), shows 1 handle, number 2 info ?_, number 3 state ?_,
      shows 4 stamp0, shows 5 stamp1, shows 6 (data0.trans ?_), shows 7 (data1.trans ?_), shows 8 (time.trans ?_),
      number 9 slot (toNat_placed_zero (by omega))⟩
    · rw [toNat_infoWord r (by omega)]
      cases r.payload <;> rfl
    · have bit_eq (b : Bool) (n : Nat) : bit b n = b.toNat * n := by cases b <;> simp [bit]
      simp only [toNat_stateWord, bit_eq]
      cases r.retarget <;> rfl
    · cases r.payload <;> rfl
    · cases r.payload <;> rfl
    · cases r.remaining <;> rfl

/-! ## NOTIFYn, WAKE_N and WAKE_CAUSE (R78 to R80) -/

theorem hasWork_iff (s : State) (a : Agent) :
    s.hasWork a = true ↔ ∃ r ∈ s.pendingRecords, s.eligible a r = true := by
  simp [State.hasWork]

theorem notify_iff (s : State) (a : Agent) :
    s.notify a = true ↔ (s.port a).state = .active ∧ ∃ r ∈ s.pendingRecords, s.eligible a r = true := by
  rw [State.notify, Bool.and_eq_true, beq_iff_eq, hasWork_iff]

theorem wakeCause_iff (s : State) (a : Agent) :
    s.wakeCause a = true ↔ (s.port a).state = .asleep ∧ ∃ r ∈ s.pendingRecords, s.eligible a r = true := by
  rw [State.wakeCause, Bool.and_eq_true, beq_iff_eq, hasWork_iff]

theorem wakeDriven_iff (s : State) : s.wakeDriven = true ↔ ∃ a, s.wakeCause a = true := by
  simp [State.wakeDriven]

/-- R55: every agent is OFF after power-on. -/
theorem port_reset_state (a : Agent) : (State.reset.port a).state = .off := by
  simp [State.reset, State.port]

theorem notify_reset (a : Agent) : State.reset.notify a = false := by
  simp [State.notify, port_reset_state]

theorem wakeDriven_reset : State.reset.wakeDriven = false := by
  simp [State.wakeDriven, State.wakeCause, port_reset_state]

/-- An ACTIVE agent contributes to no wake, and its NOTIFYn follows the eligible records alone (R78, R80). -/
theorem outputs_of_active {s : State} {a : Agent} (active : (s.port a).state = .active) :
    s.wakeCause a = false ∧ (s.notify a = true ↔ ∃ r ∈ s.pendingRecords, s.eligible a r = true) := by
  constructor
  · simp [State.wakeCause, active]
  · simp [notify_iff, active]

/-! ## CLAIM and ENABLE wake an agent (R57, R58) -/

/-- A tick at a port leaves the agent's state. -/
@[simp] theorem state_ticked (p : Port) : p.ticked.state = p.state := by
  unfold Port.ticked
  split
  · rfl
  · split
    · rfl
    · split
      · rfl
      · split <;> rfl

@[simp] theorem state_withStack (p : Port) (stack : List EventRecord) : (p.withStack stack).state = p.state := by
  unfold Port.withStack
  split
  · exact state_ticked _
  · rfl

@[simp] theorem state_answerClaim (s : State) (a : Agent) (answer : Word) (x : LastResult) :
    ((s.answerClaim a answer x).port a).state = (s.port a).state := by
  have answered : (s.answerClaim a answer x).port a = { s.port a with lastResult := x } :=
    State.port_setPort_self s a _
  rw [answered]

@[simp] theorem state_claimRecord (s : State) (a : Agent) (r : EventRecord) :
    ((s.claimRecord a r).port a).state = (s.port a).state :=
  (congrArg Port.state (State.port_setPort_self _ a _)).trans (state_withStack _ _)

theorem state_wake_of_asleep {s : State} {a : Agent} (asleep : (s.port a).state = .asleep) :
    ((s.wake a).port a).state = .active := by
  simp [State.wake, asleep]

/-- R58: whatever a CLAIM answers an ASLEEP agent, the agent is ACTIVE after it. -/
theorem state_claim_of_asleep {s : State} {a : Agent} (asleep : (s.port a).state = .asleep) :
    ((s.claim a).port a).state = .active := by
  have awake := state_wake_of_asleep asleep
  have serving : ¬((s.port a).state = .off ∨ (s.port a).state = .draining) := by simp [asleep]
  rw [State.claim, if_neg serving]
  dsimp only
  split
  · rw [state_answerClaim, awake]
  · split
    · rw [state_answerClaim, awake]
    · rw [state_claimRecord, awake]

theorem state_enableAgent_of_asleep {s : State} {a : Agent} (asleep : (s.port a).state = .asleep) :
    ((s.enableAgent a).port a).state = .active := by
  simp [State.enableAgent, State.setAgent, asleep]

theorem exec_claim_running (s : State) (a : Agent) (running : s.inReset = false) :
    exec (.claim a) s = .next (s.claim a) := by
  simp [exec, execClaim, running]

theorem exec_enable_running (s : State) (a : Agent) (running : s.inReset = false) :
    exec (.enable a) s = .next (s.enableAgent a) :=
  whileRunning_running s (fun s => s.enableAgent a) running

/-- A CLAIM or an ENABLE of an ASLEEP agent ends with the agent ACTIVE (R57, R58). -/
theorem exec_wakes {s : State} {a : Agent} {c : Instr} (running : s.inReset = false)
    (asleep : (s.port a).state = .asleep) (waking : c = .claim a ∨ c = .enable a) :
    ∃ t, exec c s = .next t ∧ (t.port a).state = .active := by
  obtain rfl | rfl := waking
  · exact ⟨s.claim a, exec_claim_running s a running, state_claim_of_asleep asleep⟩
  · exact ⟨s.enableAgent a, exec_enable_running s a running, state_enableAgent_of_asleep asleep⟩

/-- Settles O21: the outputs by their definitions' equivalences, the clearing of WAKE_CAUSE by `exec_wakes`. -/
theorem notificationOutputs : Obligations.NotificationOutputs := by
  unfold Obligations.NotificationOutputs
  refine ⟨fun s a => ⟨notify_iff s a, wakeCause_iff s a⟩, fun s => ?_,
    fun a => ⟨notify_reset a, wakeDriven_reset⟩, fun s a running => ⟨?_, fun cause c waking => ?_⟩⟩
  · simp only [wakeDriven_iff, wakeCause_iff]
  · exact busRead_wakeCause s a running
  · obtain ⟨asleep, -⟩ := (wakeCause_iff s a).mp cause
    obtain ⟨t, eq, active⟩ := exec_wakes running asleep waking
    exact ⟨t, eq, outputs_of_active active⟩

end Sys2Proof.Machine
end

section
/-!
PROOF. EDIT_BEGIN (O30: R111) and EDIT_ABANDON (O31: R112): how the Command Unit takes a command or reports an overrun,
and the edit session's two commands by the session they find.
-/
namespace Sys2Proof.Machine

/-! ## Taking a command (R187, R190) -/

theorem takeCommand_walking {s : State} (code : Byte) (carry : State → State) (busy : s.walking = true) :
    s.takeCommand code carry = (s.setFault .cmdOverrun).raise 3 3 (code.setWidth 16) := by
  rw [State.takeCommand, if_pos busy]
  rfl

theorem takeCommand_idle {s : State} (code : Byte) (carry : State → State) (idle : s.walking = false) :
    s.takeCommand code carry = carry s := by
  simp [State.takeCommand, idle]

/-- An instruction that writes a command of a running, BUSY part is an overrun with that command's code (R190). -/
theorem whileRunning_takeCommand_walking {s : State} (code : Byte) (carry : State → State)
    (running : s.inReset = false) (busy : s.walking = true) :
    whileRunning s (fun s => s.takeCommand code carry) =
      .next ((s.setFault .cmdOverrun).raise 3 3 (code.setWidth 16)) := by
  rw [whileRunning_running s _ running, takeCommand_walking code carry busy]

/-- An instruction that writes a command of a running, IDLE part carries that command out (R187). -/
theorem whileRunning_takeCommand_idle {s : State} (code : Byte) (carry : State → State)
    (running : s.inReset = false) (idle : s.walking = false) :
    whileRunning s (fun s => s.takeCommand code carry) = .next (carry s) := by
  rw [whileRunning_running s _ running, takeCommand_idle code carry idle]

/-- While the session is COMMITTING the regroup walk is in flight (R115), so the Command Unit is BUSY. -/
theorem walking_of_committing {s : State} (consistent : UnitConsistent s) (committing : s.table.session = .committing) :
    s.walking = true := by
  obtain ⟨-, regroup, -, -⟩ := consistent
  obtain ⟨p, walk⟩ := regroup.mp committing
  simp [State.walking, walk]

/-! ## The edit session's commands as commands (R111, R112) -/

theorem exec_editBegin (s : State) (page : Agent) (operand : Byte) :
    exec (.editBegin page operand) s = whileRunning s fun s => s.takeCommand 1 (State.editBegin page operand) := rfl

theorem exec_editAbandon (s : State) (page : Agent) (operand : Byte) :
    exec (.editAbandon page operand) s = whileRunning s fun s => s.takeCommand 2 (State.editAbandon page operand) := rfl

/-! ## EDIT_BEGIN by the frozen flag and the session (R111) -/

/-- The state in which an edit session was opened: staging is a copy of the active tables (R111). -/
def State.withSessionOpened (s : State) : State :=
  { s with
    table :=
      { s.table with
        staging := s.table.active, stagingDeadlines := s.table.activeDeadlines, session := .opened } }

theorem editBegin_of_frozen {s : State} (page : Agent) (operand : Byte) (frozen : s.table.frozen = true) :
    s.editBegin page operand = commandEnds s page 1 operand .refused .frozen 0 := by
  rw [State.editBegin, if_pos frozen]
  rfl

theorem editBegin_of_opened {s : State} (page : Agent) (operand : Byte) (thawed : s.table.frozen = false)
    (opened : s.table.session = .opened) :
    s.editBegin page operand = commandEnds s page 1 operand .refused .sessionOpen 0 := by
  simp [State.editBegin, thawed, opened, State.finish]

theorem editBegin_of_closed {s : State} (page : Agent) (operand : Byte) (thawed : s.table.frozen = false)
    (closed : s.table.session = .closed) :
    s.editBegin page operand = commandEnds s.withSessionOpened page 1 operand .done .noReason 0 := by
  simp [State.editBegin, thawed, closed, State.finish, State.withSessionOpened]

/-- Settles O30: a walk in flight makes the command an overrun, else R111's checks decide in their order. -/
theorem editBeginResult : Obligations.EditBeginResult := by
  unfold Obligations.EditBeginResult
  intro s page operand running
  refine ⟨fun idle => ?_, fun consistent committing => ?_⟩
  · rw [exec_editBegin, whileRunning_takeCommand_idle _ _ running idle]
    refine ⟨fun frozen => ?_, fun thawed opened => ?_, fun thawed closed => ?_⟩
    · rw [editBegin_of_frozen page operand frozen]
    · rw [editBegin_of_opened page operand thawed opened]
    · rw [editBegin_of_closed page operand thawed closed]
      rfl
  · exact whileRunning_takeCommand_walking _ _ running (walking_of_committing consistent committing)

/-! ## EDIT_ABANDON by the session (R112) -/

theorem editAbandon_of_opened {s : State} (page : Agent) (operand : Byte) (opened : s.table.session = .opened) :
    s.editAbandon page operand =
      commandEnds { s with table := { s.table with session := .closed } } page 2 operand .done .noReason 0 := by
  rw [State.editAbandon, if_pos opened]
  rfl

theorem editAbandon_of_closed {s : State} (page : Agent) (operand : Byte) (closed : s.table.session = .closed) :
    s.editAbandon page operand = commandEnds s page 2 operand .refused .noSession 0 := by
  simp [State.editAbandon, closed, State.finish]

/-- Settles O31: a walk in flight makes the command an overrun, else the session decides. -/
theorem editAbandonResult : Obligations.EditAbandonResult := by
  unfold Obligations.EditAbandonResult
  intro s page operand running
  refine ⟨fun idle => ?_, fun consistent committing => ?_⟩
  · rw [exec_editAbandon, whileRunning_takeCommand_idle _ _ running idle]
    refine ⟨fun opened => ?_, fun closed => ?_⟩
    · rw [editAbandon_of_opened page operand opened]
    · rw [editAbandon_of_closed page operand closed]
  · exact whileRunning_takeCommand_walking _ _ running (walking_of_committing consistent committing)

end Sys2Proof.Machine
end

section
/-!
PROOF. The fault word (O26: R129, R130, R198): a read, FAULT_WRITE and the flag an event sets, each said bit by bit.
-/
namespace Sys2Proof.Machine

/-! ## A read of the fault word (R130) -/

theorem busRead_faultWord {s : State} (running : s.inReset = false) :
    s.busRead 0xA4 = s.faults.flags.setWidth 16 := by
  simp [State.busRead, running, State.readStatus]

/-- The five positions above the eleven flags read 0, as the flags themselves do there. -/
theorem getLsbD_busRead_faultWord {s : State} (running : s.inReset = false) (i : Nat) :
    (s.busRead 0xA4).getLsbD i = s.faults.flags.getLsbD i := by
  rw [busRead_faultWord running, BitVec.getLsbD_setWidth, Bool.and_eq_right_iff_imp]
  intro flag
  have : i < 11 := BitVec.lt_of_getLsbD flag
  exact decide_eq_true (by omega)

/-! ## FAULT_WRITE clears the flags written with 1 (R130) -/

theorem exec_faultWrite {s : State} (w : Word) (running : s.inReset = false) :
    exec (.faultWrite w) s = .next (s.clearFaults w) :=
  whileRunning_running s (fun s => s.clearFaults w) running

/-- A position above the eleven flags carries none, whatever is written there. -/
theorem getLsbD_clearFaults (s : State) (w : Word) (i : Nat) :
    (s.clearFaults w).faults.flags.getLsbD i = (s.faults.flags.getLsbD i && !w.getLsbD i) := by
  rw [State.clearFaults_faults]
  by_cases flag : i < 11
  · simp [flag]
  · have : s.faults.flags.getLsbD i = false := BitVec.getLsbD_of_ge _ _ (by omega)
    simp [this]

/-! ## An event sets its own flag (R129, R198) -/

theorem FaultFlag.bit_lt (f : FaultFlag) : f.bit < 11 := by
  cases f <;> decide

/-- Each of the eleven flags has a position of the word, so its shifted 1 is not lost. -/
theorem getLsbD_setFault (s : State) (f : FaultFlag) (i : Nat) :
    (s.setFault f).faults.flags.getLsbD i = (s.faults.flags.getLsbD i || decide (i = f.bit)) := by
  have place : f.bit < 11 := f.bit_lt
  have single : ((1 : BitVec 11) <<< f.bit).getLsbD i = decide (i = f.bit) := by
    change ((1#11) <<< f.bit).getLsbD i = _
    rw [← BitVec.twoPow_eq, BitVec.getLsbD_twoPow]
    by_cases same : i = f.bit
    · simp [same, place]
    · simp [same, Ne.symm same]
  rw [State.setFault_faults, BitVec.getLsbD_or, single]

/-- Settles O26: the read, the write and the setting of a flag, each by its law over the bits of the word; the place
the obligation gives each flag is the model's `FaultFlag.bit`. -/
theorem faultWordReadAndWrite : Obligations.FaultWordReadAndWrite := by
  unfold Obligations.FaultWordReadAndWrite
  intro s w running
  refine ⟨getLsbD_busRead_faultWord running, s.clearFaults w, exec_faultWrite w running, rfl,
    getLsbD_clearFaults s w, ?_⟩
  intro place f
  have placed : place f = f.bit := by cases f <;> rfl
  rw [placed]
  exact ⟨(getLsbD_busRead_faultWord running f.bit).symm, rfl, getLsbD_setFault s f⟩

end Sys2Proof.Machine
end

section
/-!
PROOF. The CRC and the bytes of a frame (O50: R144, R201, R202): the CRC register byte by byte, the check value, and the
covered bytes kind by kind.
-/
namespace Sys2Proof.Machine

/-! ## The CRC register (R144) -/

theorem crc_nil : crc [] = 0xFFFF := rfl

/-- The register is a left fold, so a further byte is taken into the CRC of the bytes before it. -/
theorem crc_append_singleton (bytes : List Byte) (b : Byte) : crc (bytes ++ [b]) = crcByte (crc bytes) b := by
  rw [crc, List.foldl_append, List.foldl_cons, List.foldl_nil, ← crc]

theorem crcByte_eq_shifts (r : Word) (b : Byte) :
    crcByte r b = crcShift (crcShift (crcShift (crcShift (crcShift (crcShift (crcShift (crcShift
      (r ^^^ (b.setWidth 16 <<< 8))))))))) := rfl

/-- The check that R144 gives for implementations in software or in a peer device. -/
theorem crc_checkValue : crc [0x31, 0x32, 0x33, 0x34, 0x35, 0x36, 0x37, 0x38, 0x39] = 0x29B1 := by decide +kernel

/-! ## The bytes of a frame, and those the CRC covers (R201, R202) -/

theorem Frame.bytes_eq (f : Frame) :
    f.bytes = [0xB4] ++ f.covered ++ [(crc f.covered).extractLsb' 0 8, (crc f.covered).extractLsb' 8 8] := rfl

theorem Frame.covered_hello (session grant : Byte) : (Frame.hello session grant).covered = [0x11, session, grant] := rfl

theorem Frame.covered_helloAck (session grant : Byte) :
    (Frame.helloAck session grant).covered = [0x12, session, grant] := rfl

theorem Frame.covered_ack (next grant : Byte) : (Frame.ack next grant).covered = [0x31, next, grant] := rfl

theorem Frame.covered_nak (next grant : Byte) : (Frame.nak next grant).covered = [0x32, next, grant] := rfl

theorem Frame.covered_crd (grant : Byte) : (Frame.crd grant).covered = [0x33, grant] := rfl

theorem Frame.covered_evt (seq : Byte) (channel : BitVec 4) (count : Byte) (payload : Payload) :
    (Frame.evt seq channel count payload).covered =
      [0x21, seq, channel.setWidth 8, count, BitVec.ofNat 8 (payloadLen payload)] ++ payloadBytes payload := rfl

/-- Settles O50: the CRC by its equations at the empty list and at a further byte, the obligation's shift being
`crcShift`; the frame's bytes by `Frame.bytes_eq`; the covered bytes kind by kind, an EVT's by its payload. -/
theorem crcDefinition : Obligations.CrcDefinition := by
  unfold Obligations.CrcDefinition
  intro shift
  have shift_eq : shift = crcShift := rfl
  rw [shift_eq]
  refine ⟨crc_nil, fun bytes b => ?_, crc_checkValue, Frame.bytes_eq, fun x y channel w v => ?_⟩
  · rw [crc_append_singleton, crcByte_eq_shifts]
  · exact ⟨Frame.covered_hello x y, Frame.covered_helloAck x y, Frame.covered_ack x y, Frame.covered_nak x y,
      Frame.covered_crd x, Frame.covered_evt x channel y .absent, Frame.covered_evt x channel y (.one w),
      Frame.covered_evt x channel y (.two w v)⟩

end Sys2Proof.Machine
end

section
/-!
PROOF. Facts about lists that core Lean does not hold: the package imports no library beside it.
-/
namespace Sys2Proof.Machine

/-! ## Lists without duplicates -/

theorem nodup_of_reverse {α : Type} {l : List α} (nodup : l.Nodup) : l.reverse.Nodup :=
  List.pairwise_reverse.mpr (nodup.imp fun differ => differ.symm)

theorem nodup_map_of_inj {α β : Type} {f : α → β} {l : List α} (inj : ∀ x ∈ l, ∀ y ∈ l, f x = f y → x = y)
    (nodup : l.Nodup) : (l.map f).Nodup :=
  List.pairwise_map.mpr (nodup.imp_of_mem fun hx hy differ same => differ (inj _ hx _ hy same))

theorem nodup_of_map {α β : Type} (f : α → β) {l : List α} (nodup : (l.map f).Nodup) : l.Nodup :=
  (List.pairwise_map.mp nodup).imp fun differ same => differ (congrArg f same)

/-- A function that keeps the elements of a list apart names them. -/
theorem eq_of_nodup_map {α β : Type} {f : α → β} {l : List α} (nodup : (l.map f).Nodup) {x y : α} (hx : x ∈ l)
    (hy : y ∈ l) (same : f x = f y) : x = y := by
  induction l with
  | nil => cases hx
  | cons z l ih =>
    obtain ⟨fresh, nodup⟩ := List.nodup_cons.mp nodup
    obtain first | later := List.mem_cons.mp hx
    · obtain first' | later' := List.mem_cons.mp hy
      · exact first.trans first'.symm
      · exact absurd (first ▸ same ▸ List.mem_map_of_mem later') fresh
    · obtain first' | later' := List.mem_cons.mp hy
      · exact absurd (first' ▸ same ▸ List.mem_map_of_mem later) fresh
      · exact ih nodup later later'

theorem nodup_filterMap {α β : Type} {f : α → Option β} {l : List α}
    (inj : ∀ x y b, f x = some b → f y = some b → x = y) (nodup : l.Nodup) : (l.filterMap f).Nodup :=
  List.pairwise_filterMap.mpr (nodup.imp fun {x y} differ b h b' h' (same : b = b') =>
    differ (inj x y b h (h'.trans (congrArg some same.symm))))

/-- Two elements come in two orders. -/
theorem eq_pair_of_perm {α : Type} {l : List α} {x y : α} (h : l.Perm [x, y]) : l = [x, y] ∨ l = [y, x] := by
  match l, h.length_eq with
  | [v, w], _ =>
    have mem : v ∈ [x, y] := h.mem_iff.mp List.mem_cons_self
    obtain rfl | last := List.mem_cons.mp mem
    · obtain rfl := List.singleton_perm_singleton.mp h.cons_inv
      exact .inl rfl
    · obtain rfl := List.mem_singleton.mp last
      obtain rfl := List.singleton_perm_singleton.mp (h.trans (.swap ..)).cons_inv
      exact .inr rfl

/-! ## A family of lists joined together -/

theorem flatMap_congr_mem {α β : Type} {l : List α} {f g : α → List β} (same : ∀ x ∈ l, f x = g x) :
    l.flatMap f = l.flatMap g := by
  rw [List.flatMap_def, List.flatMap_def, List.map_congr_left same]

theorem filterMap_congr_mem {α β : Type} {l : List α} {f g : α → Option β} (same : ∀ x ∈ l, f x = g x) :
    l.filterMap f = l.filterMap g := by
  induction l with
  | nil => rfl
  | cons x l ih =>
    rw [List.filterMap_cons, List.filterMap_cons, same x List.mem_cons_self,
      ih fun y mem => same y (List.mem_cons_of_mem x mem)]

/-! ## One list's elements among another's -/

/-- Every element of l is in l', as often as in l at the least. -/
def Within {α : Type} (l l' : List α) : Prop := ∃ rest, l'.Perm (l ++ rest)

theorem Within.of_perm {α : Type} {l l' : List α} (h : l.Perm l') : Within l l' := ⟨[], by simpa using h.symm⟩

@[refl] theorem Within.refl {α : Type} (l : List α) : Within l l := .of_perm (.refl l)

theorem Within.nil {α : Type} (l : List α) : Within [] l := ⟨l, .refl l⟩

theorem Within.of_sublist {α : Type} {l l' : List α} (h : l.Sublist l') : Within l l' := h.exists_perm_append

theorem Within.trans {α : Type} {l l' l'' : List α} (first : Within l l') (second : Within l' l'') : Within l l'' := by
  obtain ⟨rest, h⟩ := first
  obtain ⟨rest', h'⟩ := second
  exact ⟨rest ++ rest', h'.trans ((h.append_right rest').trans (.of_eq (List.append_assoc ..)))⟩

theorem Within.append {α : Type} {l l' k k' : List α} (left : Within l l') (right : Within k k') :
    Within (l ++ k) (l' ++ k') := by
  obtain ⟨rest, h⟩ := left
  obtain ⟨rest', h'⟩ := right
  refine ⟨rest ++ rest', (h.append h').trans ?_⟩
  rw [List.append_assoc, List.append_assoc]
  refine List.Perm.append_left l ?_
  rw [← List.append_assoc, ← List.append_assoc]
  exact List.perm_append_comm.append_right rest'

theorem Within.map {α β : Type} (f : α → β) {l l' : List α} (h : Within l l') : Within (l.map f) (l'.map f) := by
  obtain ⟨rest, h⟩ := h
  exact ⟨rest.map f, (h.map f).trans (.of_eq List.map_append)⟩

theorem Within.cons_of_mem {α : Type} {x : α} {l l' : List α} (mem : x ∈ l') (fresh : x ∉ l) (h : l.Sublist l') :
    Within (x :: l) l' := by
  obtain ⟨rest, h⟩ := h.exists_perm_append
  have mem' : x ∈ rest := (List.mem_append.mp (h.mem_iff.mp mem)).resolve_left fresh
  obtain ⟨front, back, rfl⟩ := List.append_of_mem mem'
  refine ⟨front ++ back, h.trans ((List.Perm.append_left l List.perm_middle).trans List.perm_middle)⟩

theorem Within.countP_le {α : Type} {l l' : List α} (h : Within l l') (p : α → Bool) : l.countP p ≤ l'.countP p := by
  obtain ⟨rest, h⟩ := h
  rw [h.countP_eq p, List.countP_append]
  exact Nat.le_add_right _ _

theorem Within.nodup {α : Type} {l l' : List α} (h : Within l l') (nodup : l'.Nodup) : l.Nodup := by
  obtain ⟨rest, h⟩ := h
  exact (List.nodup_append.mp (h.nodup nodup)).1

theorem Within.subset {α : Type} {l l' : List α} (h : Within l l') : l ⊆ l' := by
  obtain ⟨rest, h⟩ := h
  exact fun x mem => h.mem_iff.mpr (List.mem_append_left rest mem)

end Sys2Proof.Machine
end

section
/-!
PROOF. What a record is known by, and where the allocated records are after each named operation: the facts that the
invariants of the Record Pool (O53, O58, O59) rest on.
-/
namespace Sys2Proof.Machine

/-! ## Records by name and slot (R1, R7) -/

/-- What the Pool knows a record by: its pair and its slot. -/
def EventRecord.key (r : EventRecord) : Pair × Slot := (r.pair, r.slot)

/-- The keys of all allocated records. -/
def State.keys (s : State) : List (Pair × Slot) := s.allocated.map EventRecord.key

theorem slotsDistinct_iff (s : State) : SlotsDistinct s ↔ (s.keys.map Prod.snd).Nodup := by
  rw [State.keys, List.map_map]; rfl

theorem pairsDistinct_iff (s : State) : PairsDistinct s ↔ (s.keys.map Prod.fst).Nodup := by
  rw [State.keys, List.map_map]; rfl

theorem outstanding_eq (s : State) (src : Source) : s.outstanding src = s.keys.countP (·.1.source == src) := by
  rw [State.keys, List.countP_map]; rfl

theorem heldCount_eq (s : State) (p : Partition) : s.heldCount p = s.keys.countP (partitionOf ·.1.source == p) := by
  rw [State.keys, List.countP_map]; rfl

/-! ## One list of a family changes -/

/-- Where one list of a family gets one more element, the family joined together gets it. -/
theorem flatMap_perm_cons {α β : Type} {l : List α} (nodup : l.Nodup) {f g : α → List β} {c : α} {x : β} (mem : c ∈ l)
    (here : (g c).Perm (x :: f c)) (elsewhere : ∀ d, d ≠ c → g d = f d) :
    (l.flatMap g).Perm (x :: l.flatMap f) := by
  induction l with
  | nil => cases mem
  | cons d l ih =>
    obtain ⟨fresh, nodup⟩ := List.nodup_cons.mp nodup
    rw [List.flatMap_cons, List.flatMap_cons]
    by_cases same : d = c
    · subst same
      have rest : l.flatMap g = l.flatMap f :=
        flatMap_congr_mem fun e he => elsewhere e fun eq => fresh (eq ▸ he)
      rw [rest]
      exact here.append_right _
    · rw [elsewhere d same]
      have mem' : c ∈ l := (List.mem_cons.mp mem).resolve_left (Ne.symm same)
      exact ((ih nodup mem').append_left _).trans List.perm_middle

theorem classesDown_nodup : classesDown.Nodup := nodup_of_reverse (List.nodup_finRange 16)

theorem mem_classesDown (c : Class) : c ∈ classesDown := by simp [classesDown]

/-! ## The pending records after each operation of the class queues (R41 to R43) -/

theorem pendingRecords_insertTail (s : State) (r : EventRecord) :
    (s.insertTail r).pendingRecords.Perm (r :: s.pendingRecords) := by
  refine flatMap_perm_cons classesDown_nodup (mem_classesDown r.cls) ?_ fun d other => ?_
  · rw [queue_insertTail, if_pos rfl]
    exact List.perm_append_singleton r _
  · rw [queue_insertTail, if_neg other]

theorem pendingRecords_insertHead (s : State) (r : EventRecord) :
    (s.insertHead r).pendingRecords.Perm (r :: s.pendingRecords) := by
  refine flatMap_perm_cons classesDown_nodup (mem_classesDown r.cls) ?_ fun d other => ?_
  · rw [queue_insertHead, if_pos rfl]
  · rw [queue_insertHead, if_neg other]

theorem pendingRecords_removePending (s : State) (k : Slot) :
    (s.removePending k).pendingRecords = s.pendingRecords.filter fun r => r.slot != k := by
  rw [State.pendingRecords, State.pendingRecords, List.filter_flatMap]
  exact flatMap_congr_mem fun c _ => queue_removePending s k c

theorem mem_of_mem_removePending {s : State} {k : Slot} {r : EventRecord}
    (mem : r ∈ (s.removePending k).pendingRecords) : r ∈ s.pendingRecords :=
  (List.mem_filter.mp (pendingRecords_removePending s k ▸ mem)).1

theorem pendingRecords_changePending (s : State) (k : Slot) (f : EventRecord → EventRecord) :
    (s.changePending k f).pendingRecords = s.pendingRecords.map fun r => if r.slot = k then f r else r := by
  rw [State.pendingRecords, State.pendingRecords, List.map_flatMap]
  exact flatMap_congr_mem fun c _ => queue_changePending s k f c

/-! ## The records in service after a change of one stack -/

/-- A stack that gets one more record. -/
theorem stackedRecords_setPort_cons {s : State} {a : Agent} {p : Port} {r : EventRecord}
    (pushed : p.stack = r :: (s.port a).stack) :
    (s.setPort a p).stackedRecords.Perm (r :: s.stackedRecords) := by
  refine flatMap_perm_cons (List.nodup_finRange 4) (List.mem_finRange a) ?_ fun b other => ?_
  · rw [State.port_setPort_self, pushed]
  · rw [State.port_setPort_ne s p other]

/-- A stack that loses its top record. -/
theorem stackedRecords_setPort_tail {s : State} {a : Agent} {p : Port} {r : EventRecord}
    (popped : (s.port a).stack = r :: p.stack) :
    s.stackedRecords.Perm (r :: (s.setPort a p).stackedRecords) := by
  refine flatMap_perm_cons (List.nodup_finRange 4) (List.mem_finRange a) ?_ fun b other => ?_
  · rw [State.port_setPort_self, popped]
  · rw [State.port_setPort_ne s p other]

/-- Where no stack changes but in its records' keys, the keys in service stay. -/
theorem map_stackedRecords {β : Type} {s t : State} (f : EventRecord → β)
    (same : ∀ a, (t.port a).stack.map f = (s.port a).stack.map f) :
    t.stackedRecords.map f = s.stackedRecords.map f := by
  simp only [State.stackedRecords, List.map_flatMap, same]

/-! ## Membership in the places of records (R8) -/

theorem mem_allocated (s : State) (r : EventRecord) :
    r ∈ s.allocated ↔ r ∈ s.pendingRecords ∨ r ∈ s.stackedRecords ∨ r ∈ s.forwardRecords := by
  simp [State.allocated]

/-- With distinct slots, a record is the only one allocated in its slot. -/
theorem eq_of_slot {s : State} (distinct : SlotsDistinct s) {x y : EventRecord} (hx : x ∈ s.allocated)
    (hy : y ∈ s.allocated) (slot : x.slot = y.slot) : x = y :=
  eq_of_nodup_map distinct hx hy slot

/-! ## Fresh sequence numbers (R14) -/

/-- R14: while a source has fewer records than there are sequence numbers, a fresh one is found. -/
theorem freshSeq_fresh {s : State} {src : Source} (few : s.outstanding src < 256) :
    ∀ r ∈ s.allocated, ¬(r.source = src ∧ r.seq = s.freshSeq src) := by
  obtain ⟨free, hfree⟩ : ∃ free : Nat → Bool, free = fun k => s.allocated.all fun r =>
      !(r.source == src && r.seq == s.pool.nextSeq[src] + BitVec.ofNat 8 k) := ⟨_, rfl⟩
  have value : s.freshSeq src = s.pool.nextSeq[src] + BitVec.ofNat 8 (((List.range 256).find? free).getD 0) := by
    rw [hfree]; rfl
  have found : ∃ k, (List.range 256).find? free = some k := by
    refine Option.isSome_iff_exists.mp (Decidable.byContradiction fun none => ?_)
    rw [List.find?_isSome] at none
    have taken : ∀ k ∈ List.range 256,
        s.pool.nextSeq[src] + BitVec.ofNat 8 k ∈ (s.allocated.filter (·.source == src)).map EventRecord.seq := by
      intro k hk
      obtain ⟨r, mem, source, seq⟩ : ∃ r ∈ s.allocated,
          r.source = src ∧ r.seq = s.pool.nextSeq[src] + BitVec.ofNat 8 k := by
        simpa [hfree] using fun isFree => none ⟨k, hk, isFree⟩
      exact List.mem_map.mpr ⟨r, List.mem_filter.mpr ⟨mem, beq_iff_eq.mpr source⟩, seq⟩
    have nodup : ((List.range 256).map fun k => s.pool.nextSeq[src] + BitVec.ofNat 8 k).Nodup := by
      refine nodup_map_of_inj (fun j hj k hk eq => ?_) List.nodup_range
      have := congrArg BitVec.toNat (BitVec.add_right_inj _ |>.mp eq)
      simp only [List.mem_range] at hj hk
      simpa [Nat.mod_eq_of_lt hj, Nat.mod_eq_of_lt hk] using this
    have all := nodup.length_le_of_subset (by
      intro x hx
      obtain ⟨k, hk, rfl⟩ := List.mem_map.mp hx
      exact taken k hk)
    rw [List.length_map, List.length_map, List.length_range, ← List.countP_eq_length_filter] at all
    exact absurd all (Nat.not_le.mpr few)
  obtain ⟨k, hk⟩ := found
  have ok := List.find?_some hk
  rw [value, hk, Option.getD_some]
  rintro r mem ⟨source, seq⟩
  have unused := List.all_eq_true.mp (hfree ▸ ok) r mem
  simp [source, seq] at unused

end Sys2Proof.Machine
end

section
/-!
PROOF. The edits a command is made of: each changes the records, the ports, the Forward Queue or the control state in one
way. Every command but a power-on reset is a sequence of them, so that an invariant need only be shown to survive each.
-/
namespace Sys2Proof.Machine

/-! ## What an edit may do -/

/-- r' is r with other data: the same name and slot, and a count that has not become 0. -/
structure Kin (r r' : EventRecord) : Prop where
  key : r'.key = r.key
  count : r.count ≠ 0 → r'.count ≠ 0

/-- The tests an arrival or raising has passed when slot k is taken for it (R10, R29, R35). -/
structure Admitted (s : State) (a : Arrival) (k : Slot) : Prop where
  enabled : (s.entry a.source).enable = true
  free : ∀ r ∈ s.allocated, r.slot ≠ k
  outstanding : s.outstanding a.source < s.maxOutstanding a.source
  room : a.source.val < 60 → s.heldCount (partitionOf a.source) < s.partitionSize (partitionOf a.source)

/-- A port whose top record r has left its stack, perhaps to be withdrawn (R66, R71). -/
structure Popped (p : Port) (r : EventRecord) (p' : Port) : Prop where
  stack : p.stack = r :: p'.stack
  state : p'.state = p.state
  withdrawn : p'.withdrawn = p.withdrawn ∨ p'.withdrawn = (p.withdraw r.pair).withdrawn

/-- A port of whose top record the remaining time or the overdue flag may have changed (R89, R97). -/
structure Retopped (p p' : Port) : Prop where
  state : p'.state = p.state
  withdrawn : p'.withdrawn = p.withdrawn
  stack : p'.stack = p.stack ∨
    ∃ r rest d o, p.stack = r :: rest ∧ d ≠ some 0 ∧ p'.stack = { r with remaining := d, overdue := o } :: rest

/-- A source whose raised-again flag, if it has one, is clear. -/
def FlagClear (s : State) (src : Source) : Prop := ∀ i, src = internalSource i → (s.internal i).raisedAgain = false

/-- The state less the registers that no safety property reads. -/
def State.core (s : State) :=
  (s.pending, s.dispatcher.queues, s.ports, s.transmitter, s.link.state, s.command.status, s.command.walk,
    s.table.active, s.table.activeDeadlines, s.table.session, s.table.frozen, s.internals, s.pool.linkReserve)

/-- While a consistent part is frozen, its flag and its active tables stay (R123). -/
def KeepsFrozen (s t : State) : Prop :=
  UnitConsistent s → s.table.frozen = true →
    t.table.frozen = true ∧ t.table.active = s.table.active ∧ t.table.activeDeadlines = s.table.activeDeadlines

/-- Registers, walk, session and agent states change; every record stays where it is. -/
structure Control (s t : State) : Prop where
  pending : t.pending = s.pending
  queues : t.dispatcher.queues = s.dispatcher.queues
  transmitter : t.transmitter = s.transmitter
  linkState : t.link.state = s.link.state
  internals : t.internals = s.internals
  reserve : t.pool.linkReserve = s.pool.linkReserve
  stack : ∀ a, (t.port a).stack = (s.port a).stack
  withdrawn : ∀ a, (t.port a).withdrawn.Sublist (s.port a).withdrawn
  asleep : ∀ a, (t.port a).state = .asleep → (s.port a).state = .asleep ∨ (s.port a).stack = []
  valid : ActiveValid s → ActiveValid t
  unit : UnitConsistent s → UnitConsistent t
  frozen : KeepsFrozen s t

/-- The link's state and the Transmitter change; records leave the Forward Queue or stay in order. -/
structure LinkChange (s t : State) : Prop where
  core : ({ t with transmitter := s.transmitter, link := s.link } : State).core = s.core
  forward : t.forwardRecords.Sublist s.forwardRecords
  window : ForwardWindow s → ForwardWindow t

/-- CLEAR is taken (R192): nothing is left in service or in the Forward Queue, no raised-again flag is set. -/
structure Wiped (s t : State) : Prop where
  pending : t.pending = s.pending
  queues : t.dispatcher.queues = s.dispatcher.queues
  forward : t.transmitter.queue = []
  mark : t.transmitter.mark = none
  reserve : t.pool.linkReserve = s.pool.linkReserve
  flags : ∀ i, (t.internal i).raisedAgain = false
  stack : ∀ a, (t.port a).stack = []
  withdrawn : ∀ a, (t.port a).withdrawn = []
  active : t.table.active = s.table.active
  unit : UnitConsistent s → UnitConsistent t
  frozen : KeepsFrozen s t

/-! ## The edits -/

/-- One edit of the state. -/
inductive Edit : State → State → Prop
  /-- Only control state changes. -/
  | control {s t : State} (h : Control s t) : Edit s t
  /-- An arrival or raising becomes a pending record (R29, R35). -/
  | allocate (s : State) (a : Arrival) (k : Slot) (retarget : Option Agent) (admitted : Admitted s a k) :
      Edit s (s.allocatePending a k retarget)
  /-- An arrival on a LINK route joins the Forward Queue (R35, R159). -/
  | forward (s : State) (a : Arrival) (k : Slot) (admitted : Admitted s a k) (external : a.source.val < 60)
      (route : ∃ c, (s.entry a.source).route = .link c) (room : s.transmitter.queue.length < 16) :
      Edit s (s.allocateForward a k)
  /-- A pending record takes a merge (R29, R34). -/
  | merge (s : State) (k : Slot) (f : EventRecord → EventRecord) (kin : ∀ r, Kin r (f r))
      (cls : ∀ r, (f r).cls = r.cls) (time : ∀ r, (f r).remaining = r.remaining) : Edit s (s.changePending k f)
  /-- A raised-again flag is cleared, or is set while the source's record is neither pending nor free (R29). -/
  | flag (s : State) (i : Fin 4) (x : InternalSource)
      (inService : x.raisedAgain = true →
        s.newestPending (internalSource i) = none ∧ s.outstanding (internalSource i) ≠ 0) :
      Edit s (s.setInternal i x)
  /-- The record a scan has chosen goes from its queue to the top of a stack (R63). -/
  | claim (s : State) (a : Agent) (r : EventRecord) (p : Port) (d : Option Word) (chosen : s.selection a = some r)
      (stack : p.stack = { r with remaining := d } :: (s.port a).stack) (time : d ≠ some 0)
      (withdrawn : p.withdrawn = (s.port a).withdrawn.filter (· != r.pair)) (state : p.state = (s.port a).state)
      (awake : p.state ≠ .asleep) : Edit s ((s.removePending r.slot).setPort a p)
  /-- The top record of a stack is freed (R68, R94). -/
  | free (s : State) (a : Agent) (r : EventRecord) (p : Port) (popped : Popped (s.port a) r p)
      (clear : FlagClear s r.source) : Edit s (s.setPort a p)
  /-- The top record of a stack goes to the head of a queue (R69, R82, R95, R96). -/
  | handBack (s : State) (a : Agent) (r r' : EventRecord) (p : Port) (popped : Popped (s.port a) r p)
      (clear : FlagClear s r.source) (kin : Kin r r') (time : r'.remaining = none) :
      Edit s ((s.setPort a p).insertHead r')
  /-- Time passes at the top of the stacks (R89, R97). -/
  | service (s : State) (ps : Vector Port 4) (h : ∀ a : Agent, Retopped (s.port a) ps[a]) : Edit s { s with ports := ps }
  /-- An agent leaves every declined set (R81). -/
  | undecline (s : State) (a : Agent) : Edit s (s.undeclineAll a)
  /-- Only the link changes. -/
  | link {s t : State} (h : LinkChange s t) : Edit s t
  /-- At link loss the oldest forwarded record goes to the tail of a queue (R176). -/
  | divert (s : State) (f : Forwarded) (rest : List Forwarded) (r' : EventRecord)
      (front : s.transmitter.queue = f :: rest) (queued : ∀ g ∈ s.transmitter.queue, g.linkSeq = none)
      (mark : s.transmitter.mark = none) (kin : Kin f.record r') (time : r'.remaining = f.record.remaining) :
      Edit s ((s.setTransmitter { s.transmitter with queue := rest }).insertTail r')
  /-- A walk frees a pending record (R52, R193). -/
  | remove (s : State) (k : Slot) : Edit s (s.removePending k)
  /-- The regroup walk moves a refreshed record to the tail of its new queue (R118). -/
  | regroup (s : State) (r r' : EventRecord) (mem : r ∈ s.pendingRecords) (kin : Kin r r')
      (time : r'.remaining = r.remaining) : Edit s ((s.removePending r.slot).insertTail r')
  /-- CLEAR is taken. -/
  | wipe {s t : State} (h : Wiped s t) : Edit s t
  /-- LINK_RESERVE takes a value that fits (R13). -/
  | reserve (s : State) (v : Byte) (fits : s.reserveFits v = true) :
      Edit s { s with pool := { s.pool with linkReserve := v } }

/-- The regroup walk refreshes a record in place (R118). Where two records shared its slot both would be replaced, so that
this is no edit: some invariants survive it only with distinct slots. -/
inductive Refresh : State → State → Prop
  | mk (s : State) (r r' : EventRecord) (mem : r ∈ s.pendingRecords) (kin : Kin r r') (cls : r'.cls = r.cls)
      (time : r'.remaining = r.remaining) : Refresh s (s.changePending r.slot fun _ => r')

/-! ## States with the same core -/

/-- The part's own registers apart, a state of the same core is the same state to every safety property. -/
theorem Control.of_core {s t : State} (h : t.core = s.core) : Control s t := by
  simp only [State.core, Prod.mk.injEq] at h
  obtain ⟨pending, queues, ports, transmitter, link, status, walk, active, deadlines, session, frozen, internals,
    reserve⟩ := h
  have port : ∀ a, t.port a = s.port a := fun a => by simp only [State.port, ports]
  refine ⟨pending, queues, transmitter, link, internals, reserve, fun a => by rw [port], fun a => port a ▸ .refl _,
    fun a h => .inl (port a ▸ h), ?_, ?_, fun _ h => ⟨frozen ▸ h, active, deadlines⟩⟩
  · simp only [ActiveValid, State.entry, active]
    exact id
  · simp only [UnitConsistent, status, walk, session, frozen, port]
    exact id

/-! ## The lists of records after an edit -/

theorem keys_eq (s : State) :
    s.keys = s.pendingRecords.map EventRecord.key ++
      (s.stackedRecords.map EventRecord.key ++ s.forwardRecords.map EventRecord.key) := by
  simp [State.keys, State.allocated]

theorem pendingRecords_congr {s t : State} (h : t.dispatcher.queues = s.dispatcher.queues) :
    t.pendingRecords = s.pendingRecords := by
  have queue : t.queue = s.queue := funext fun c => by simp only [State.queue, h]
  simp only [State.pendingRecords, queue]

theorem forwardRecords_congr {s t : State} (h : t.transmitter = s.transmitter) :
    t.forwardRecords = s.forwardRecords := by
  simp only [State.forwardRecords, h]

theorem stackedRecords_congr {s t : State} (h : ∀ a, (t.port a).stack = (s.port a).stack) :
    t.stackedRecords = s.stackedRecords := by
  simp only [State.stackedRecords, h]

theorem Retopped.map_stack {β : Type} {p p' : Port} (h : Retopped p p') (f : EventRecord → β)
    (same : ∀ r d o, f { r with remaining := d, overdue := o } = f r) : p'.stack.map f = p.stack.map f := by
  obtain stack | ⟨r, rest, d, o, before, -, after⟩ := h.stack
  · rw [stack]
  · rw [before, after, List.map_cons, List.map_cons, same]

/-- A record that leaves its queue by its slot and comes back elsewhere is still there once. -/
theorem cons_removePending_within {s : State} {r : EventRecord} (mem : r ∈ s.pendingRecords) :
    Within (r :: (s.removePending r.slot).pendingRecords) s.pendingRecords := by
  rw [pendingRecords_removePending]
  exact .cons_of_mem mem (by simp) List.filter_sublist

/-! ## The keys of the allocated records after an edit -/

/-- Every edit keeps LINK_RESERVE but the one that writes it. -/
def KeepsReserve (s t : State) : Prop := t.pool.linkReserve = s.pool.linkReserve

/-- What an edit does to the keys: none is new; or an admitted arrival adds its own; or, all staying, LINK_RESERVE takes a
value that fits them. -/
inductive KeyChange (s t : State) : Prop
  | shrink (keys : Within t.keys s.keys) (reserve : KeepsReserve s t)
  | grow (a : Arrival) (k : Slot) (admitted : Admitted s a k)
      (keys : t.keys.Perm ((⟨a.source, s.freshSeq a.source⟩, k) :: s.keys)) (reserve : KeepsReserve s t)
  | resize (keys : t.keys = s.keys) (fits : s.reserveFits t.pool.linkReserve = true)

theorem keys_within {s t : State}
    (pending : Within (t.pendingRecords.map EventRecord.key) (s.pendingRecords.map EventRecord.key))
    (stacked : Within (t.stackedRecords.map EventRecord.key) (s.stackedRecords.map EventRecord.key))
    (forward : Within (t.forwardRecords.map EventRecord.key) (s.forwardRecords.map EventRecord.key)) :
    Within t.keys s.keys := by
  rw [keys_eq, keys_eq]
  exact pending.append (stacked.append forward)

/-- Where nothing but the pending records changes. -/
theorem keys_setQueues_within {s : State} {qs : Vector (List EventRecord) 16}
    (pending : Within ((s.setQueues qs).pendingRecords.map EventRecord.key) (s.pendingRecords.map EventRecord.key)) :
    Within (s.setQueues qs).keys s.keys :=
  keys_within pending (.refl _) (.refl _)

/-- A key goes from the pending records to the records in service. -/
theorem keys_within_of_claimed {s t : State} {x : Pair × Slot}
    (pending : Within (x :: t.pendingRecords.map EventRecord.key) (s.pendingRecords.map EventRecord.key))
    (stacked : (t.stackedRecords.map EventRecord.key).Perm (x :: s.stackedRecords.map EventRecord.key))
    (forward : t.forwardRecords = s.forwardRecords) : Within t.keys s.keys := by
  rw [keys_eq, keys_eq, forward]
  refine (Within.of_perm (((stacked.append_right _).append_left _).trans List.perm_middle)).trans ?_
  exact Within.append (l := _ :: _) pending (.refl _)

/-- A key goes from the other records to the pending ones. -/
theorem keys_within_of_returned {s t : State} {x : Pair × Slot}
    (pending : (t.pendingRecords.map EventRecord.key).Perm (x :: s.pendingRecords.map EventRecord.key))
    (others : (s.stackedRecords.map EventRecord.key ++ s.forwardRecords.map EventRecord.key).Perm
      (x :: (t.stackedRecords.map EventRecord.key ++ t.forwardRecords.map EventRecord.key))) :
    Within t.keys s.keys := by
  rw [keys_eq, keys_eq]
  exact .of_perm ((pending.append_right _).trans (List.perm_middle.symm.trans (others.symm.append_left _)))

theorem map_key_undecline (rs : List EventRecord) (a : Agent) :
    (rs.map (·.undecline a)).map EventRecord.key = rs.map EventRecord.key := by
  rw [List.map_map]; rfl

theorem queue_undeclineAll (s : State) (a : Agent) (c : Class) :
    (s.undeclineAll a).queue c = (s.queue c).map (·.undecline a) := by
  simp [State.undeclineAll, State.queue]

theorem port_undeclineAll (s : State) (a b : Agent) :
    (s.undeclineAll a).port b = { s.port b with stack := (s.port b).stack.map (·.undecline a) } := by
  simp [State.undeclineAll, State.port]

theorem pendingRecords_undeclineAll (s : State) (a : Agent) :
    (s.undeclineAll a).pendingRecords = s.pendingRecords.map (·.undecline a) := by
  rw [State.pendingRecords, State.pendingRecords, List.map_flatMap]
  exact flatMap_congr_mem fun c _ => queue_undeclineAll s a c

theorem forwardRecords_undeclineAll (s : State) (a : Agent) :
    (s.undeclineAll a).forwardRecords = s.forwardRecords.map (·.undecline a) := by
  simp [State.undeclineAll, State.forwardRecords]

theorem Edit.keyChange {s t : State} (h : Edit s t) : KeyChange s t := by
  cases h with
  | control h =>
    refine .shrink (keys_within ?_ ?_ ?_) h.reserve
    · rw [pendingRecords_congr h.queues]
    · rw [stackedRecords_congr h.stack]
    · rw [forwardRecords_congr h.transmitter]
  | allocate a k retarget admitted =>
    refine .grow a k admitted ?_ rfl
    rw [keys_eq, keys_eq]
    exact ((pendingRecords_insertTail _ _).map EventRecord.key).append_right _
  | forward a k admitted =>
    refine .grow a k admitted ?_ rfl
    have forward : (s.allocateForward a k).forwardRecords = s.forwardRecords ++ [s.newRecord a k] := by
      simp [State.forwardRecords, State.allocateForward]
    rw [keys_eq, keys_eq, forward, List.map_append, ← List.append_assoc, ← List.append_assoc, ← List.append_assoc]
    exact List.perm_append_singleton _ _
  | merge k f kin =>
    refine .shrink (keys_setQueues_within ?_) rfl
    have same : ∀ r : EventRecord, (if r.slot = k then f r else r).key = r.key := fun r => by
      split
      · exact (kin r).key
      · rfl
    change Within ((s.changePending k f).pendingRecords.map EventRecord.key) _
    rw [pendingRecords_changePending, List.map_map]
    exact .of_perm (.of_eq (List.map_congr_left fun r _ => same r))
  | flag i x => exact .shrink (.refl _) rfl
  | claim a r p d chosen stack =>
    obtain ⟨mem, -⟩ := mem_of_selection chosen
    have pushed := stackedRecords_setPort_cons (s := s.removePending r.slot) stack
    exact .shrink (keys_within_of_claimed ((cons_removePending_within mem).map EventRecord.key)
      (pushed.map EventRecord.key) rfl) rfl
  | free a r p popped =>
    have fewer := Within.of_perm ((stackedRecords_setPort_tail popped.stack).map EventRecord.key).symm
    exact .shrink (keys_within (.refl _) ((Within.of_sublist (List.sublist_cons_self _ _)).trans fewer) (.refl _)) rfl
  | handBack a r r' p popped clear kin =>
    refine .shrink (keys_within_of_returned (x := r.key) ?_ ?_) rfl
    · rw [← kin.key]
      exact (pendingRecords_insertHead (s.setPort a p) r').map EventRecord.key
    · exact ((stackedRecords_setPort_tail popped.stack).map EventRecord.key).append_right _
  | service ps h =>
    refine .shrink (keys_within (.refl _) ?_ (.refl _)) rfl
    have same := map_stackedRecords (s := s) (t := { s with ports := ps }) EventRecord.key fun a =>
      (h a).map_stack EventRecord.key fun _ _ _ => rfl
    rw [same]
  | undecline a =>
    refine .shrink (keys_within ?_ ?_ ?_) rfl
    · rw [pendingRecords_undeclineAll, map_key_undecline]
    · rw [map_stackedRecords EventRecord.key fun b => ?_]
      rw [port_undeclineAll, map_key_undecline]
    · rw [forwardRecords_undeclineAll, map_key_undecline]
  | link h =>
    have core := h.core
    simp only [State.core, Prod.mk.injEq] at core
    obtain ⟨-, queues, ports, -, -, -, -, -, -, -, -, -, reserve⟩ := core
    refine .shrink (keys_within ?_ ?_ (.of_sublist (h.forward.map _))) reserve
    · rw [pendingRecords_congr queues]
    · rw [stackedRecords_congr fun a => congrArg (fun ps : Vector Port 4 => ps[a].stack) ports]
  | divert f rest r' front queued mark kin =>
    refine .shrink (keys_within_of_returned (x := r'.key)
      ((pendingRecords_insertTail (s.setTransmitter { s.transmitter with queue := rest }) r').map EventRecord.key) ?_) rfl
    have first : s.forwardRecords = f.record :: rest.map (·.record) := by rw [State.forwardRecords, front, List.map_cons]
    rw [first, List.map_cons, kin.key]
    exact List.perm_middle
  | remove k =>
    refine .shrink (keys_setQueues_within ?_) rfl
    change Within ((s.removePending k).pendingRecords.map EventRecord.key) _
    rw [pendingRecords_removePending]
    exact .of_sublist (List.filter_sublist.map _)
  | regroup r r' mem kin =>
    refine .shrink (keys_within ?_ (.refl _) (.refl _)) rfl
    have moved := (pendingRecords_insertTail (s.removePending r.slot) r').map EventRecord.key
    rw [List.map_cons, kin.key] at moved
    exact (Within.of_perm moved).trans ((cons_removePending_within mem).map EventRecord.key)
  | wipe h =>
    refine .shrink (keys_within ?_ ?_ ?_) h.reserve
    · rw [pendingRecords_congr h.queues]
    · have none : t.stackedRecords = [] := by simp [State.stackedRecords, h.stack]
      rw [none]
      exact .nil _
    · rw [State.forwardRecords, h.forward]
      exact .nil _
  | reserve v fits => exact .resize rfl fits

/-- With distinct slots a refresh replaces one record, by one of its name. -/
theorem map_key_refresh {s : State} {r r' : EventRecord} (distinct : SlotsDistinct s) (mem : r ∈ s.pendingRecords)
    (kin : Kin r r') :
    (s.changePending r.slot fun _ => r').pendingRecords.map EventRecord.key = s.pendingRecords.map EventRecord.key := by
  rw [pendingRecords_changePending, List.map_map]
  refine List.map_congr_left fun x hx => ?_
  by_cases slot : x.slot = r.slot
  · have same : x = r := eq_of_slot distinct ((mem_allocated s x).mpr (.inl hx)) ((mem_allocated s r).mpr (.inl mem)) slot
    simp [same, kin.key]
  · simp [slot]

theorem Refresh.keys {s t : State} (h : Refresh s t) (distinct : SlotsDistinct s) : t.keys = s.keys := by
  obtain ⟨r, r', mem, kin⟩ := h
  rw [keys_eq, keys_eq, map_key_refresh distinct mem kin]
  rfl

end Sys2Proof.Machine
end

section
/-!
PROOF. The commands as sequences of edits, first part: arrivals, raisings and follow-ups, the Line Inputs, the agent ports
and deadline expiry.
-/
namespace Sys2Proof.Machine

/-- t is reached from s by edits. -/
inductive Edits : State → State → Prop
  | refl (s : State) : Edits s s
  | tail {s t u : State} (first : Edits s t) (last : Edit t u) : Edits s u

theorem Edits.trans {s t u : State} (first : Edits s t) (second : Edits t u) : Edits s u := by
  induction second with
  | refl => exact first
  | tail _ last ih => exact ih.tail last

theorem Edit.edits {s t : State} (h : Edit s t) : Edits s t := (Edits.refl s).tail h

/-- Registers outside the core change. -/
theorem Edits.quiet {s t : State} (h : t.core = s.core) : Edits s t := (Edit.control (.of_core h)).edits

/-- Registers outside the core change before the edits. -/
theorem Edits.after {s t u : State} (h : Edits t u) (first : t.core = s.core) : Edits s u := (Edits.quiet first).trans h

/-- A property that every edit keeps holds after any sequence of them. -/
theorem Edits.keeps {P : State → Prop} (keeps : ∀ s t, Edit s t → P s → P t) {s t : State} (h : Edits s t)
    (start : P s) : P t := by
  induction h with
  | refl => exact start
  | tail _ last ih => exact keeps _ _ last ih

/-! ## Sources -/

@[simp] theorem internalOf_internalSource (i : Fin 4) : internalOf (internalSource i) = some i := by
  revert i; decide

theorem eq_internalSource {src : Source} {i : Fin 4} (h : internalOf src = some i) : src = internalSource i := by
  unfold internalOf at h
  split at h
  · next ge =>
    cases h
    exact Fin.ext (by simp [internalSource]; omega)
  · cases h

theorem internalOf_eq_none {src : Source} (h : src.val < 60) : internalOf src = none := by
  simp [internalOf]; omega

theorem internalSource_ge (i : Fin 4) : 60 ≤ (internalSource i).val := by simp [internalSource]

theorem maxOutstanding_internalSource (s : State) (i : Fin 4) : s.maxOutstanding (internalSource i) = 1 := by
  simp [State.maxOutstanding, internalSource_ge]

/-! ## Counts that have saturated or risen are not 0 -/

theorem satByte_ne_zero (b : Byte) : satByte b ≠ 0 := by
  unfold satByte
  split
  · decide
  · next notFull =>
    intro zero
    apply notFull
    bv_omega

theorem Kin.mergeCount (r : EventRecord) : Kin r r.mergeCount := ⟨rfl, fun _ => satByte_ne_zero _⟩

theorem Kin.mergeLatest (r : EventRecord) (now : TickCount) (data : Payload) : Kin r (r.mergeLatest now data) :=
  ⟨rfl, fun _ => satByte_ne_zero _⟩

theorem Kin.mergeCause (r : EventRecord) (w0 w1 : Word) : Kin r (r.mergeCause w0 w1) :=
  ⟨rfl, fun _ => satByte_ne_zero _⟩

/-! ## Raisings and arrivals (R29, R33 to R36) -/

theorem free_of_freeSlot {s : State} {k : Slot} (h : s.freeSlot = some k) : ∀ r ∈ s.allocated, r.slot ≠ k :=
  ((freeSlot_eq_some s k).mp h).1

theorem raise_edits (s : State) (i : Fin 4) (w0 w1 : Word) : Edits s (s.raise i w0 w1) := by
  unfold State.raise
  dsimp only
  split
  · exact .refl s
  · next enabled =>
    split
    · exact .refl s
    · split
      · exact (Edit.merge s _ _ (fun r => .mergeCause r w0 w1) (fun _ => rfl) fun _ => rfl).edits
      · next none =>
        split
        · next zero =>
          split
          · next k free =>
            refine (Edit.allocate s _ k _ ⟨?_, free_of_freeSlot free, ?_, fun low => ?_⟩).edits
            · simpa using enabled
            · dsimp only
              rw [zero, maxOutstanding_internalSource]
              exact Nat.one_pos
            · exact absurd low (Nat.not_lt.mpr (internalSource_ge i))
          · exact .refl s
        · next some => exact (Edit.flag s i _ fun _ => ⟨none, some⟩).edits

theorem setFault_edits (s : State) (f : FaultFlag) : Edits s (s.setFault f) := .quiet rfl

theorem reportControl_edits (s : State) (f : FaultFlag) (code : Nat) (detail : Word) :
    Edits s (s.reportControl f code detail) :=
  (setFault_edits s f).trans (raise_edits _ _ _ _)

theorem countOverflow_edits (s : State) (src : Source) : Edits s (s.countOverflow src) :=
  (raise_edits _ _ _ _ : Edits _ (s.countOverflow src)).after rfl

/-- The tests of step 5 (R35). -/
theorem hasRoom_iff (s : State) (src : Source) :
    s.hasRoom src = true ↔ s.outstanding src < s.maxOutstanding src ∧
      s.heldCount (partitionOf src) < s.partitionSize (partitionOf src) ∧
      ∀ c, (s.entry src).route = .link c → s.link.state = .down ∨ s.transmitter.queue.length < 16 := by
  unfold State.hasRoom
  rw [Bool.and_eq_true, Bool.and_eq_true, decide_eq_true_iff, decide_eq_true_iff, and_assoc]
  refine and_congr_right' (and_congr_right' ?_)
  cases (s.entry src).route with
  | agents _ => simp
  | link c =>
    dsimp only
    rw [Bool.or_eq_true, beq_iff_eq, decide_eq_true_iff]
    simp [Config.forwardLimit]

theorem place_edits (s : State) (a : Arrival) (k : Slot) (external : a.source.val < 60) (admitted : Admitted s a k)
    (room : ∀ c, (s.entry a.source).route = .link c → s.link.state = .down ∨ s.transmitter.queue.length < 16) :
    Edits s (s.place a k).1 := by
  unfold State.place
  split
  · exact (Edit.allocate s a k none admitted).edits
  · next c route =>
    split
    · split
      · next b _ => exact (Edit.allocate s a k (some b) admitted).edits
      · exact .quiet rfl
    · next up => exact (Edit.forward s a k admitted external ⟨c, route⟩ ((room c route).resolve_left up)).edits

theorem resolve_edits (s : State) (a : Arrival) (external : a.source.val < 60) : Edits s (s.resolve a).1 := by
  unfold State.resolve
  dsimp only
  split
  · exact .refl s
  · next enabled =>
    split
    · exact .refl s
    · split
      · exact .refl s
      · split
        · exact (Edit.merge s _ _ .mergeCount (fun _ => rfl) fun _ => rfl).edits
        · exact (Edit.merge s _ _ (fun r => .mergeLatest r _ _) (fun _ => rfl) fun _ => rfl).edits
        · unfold State.allocateOrOverflow
          split
          · next room =>
            obtain ⟨outstanding, held, forward⟩ := (hasRoom_iff s a.source).mp room
            split
            · next k free =>
              exact place_edits s a k external
                ⟨by simpa using enabled, free_of_freeSlot free, outstanding, fun _ => held⟩ forward
            · exact countOverflow_edits s a.source
          · exact countOverflow_edits s a.source

/-! ## Free orders and follow-ups -/

theorem inFreeOrder_edits {α : Type} (run : α → State → State) (s : State) (xs : List α)
    (edits : ∀ x ∈ xs, ∀ t, Edits t (run x t)) : Edits s (s.settle run xs) :=
  inFreeOrder_keeps (Edits s) run (fun _ _ h => h.trans (.quiet rfl)) _ xs s (fun x mem t h => h.trans (edits x mem t))
    (.refl s)

/-- An arrival set off by an event is at a source 0 to 59. -/
def FollowUp.External : FollowUp → Prop
  | .rearm _ => True
  | .raise _ _ _ => True
  | .arrival a => a.source.val < 60

theorem lineArrival_external (s : State) (n : Line) : (s.lineArrival n).source.val < 60 := by
  simp only [State.lineArrival, lineSource]; omega

theorem followUp_edits (f : FollowUp) (s : State) (external : f.External) : Edits s (followUp f s) := by
  cases f with
  | rearm n =>
    simp only [followUp]
    split
    · exact resolve_edits s _ (lineArrival_external s n)
    · exact .refl s
  | raise i w0 w1 => exact raise_edits s i w0 w1
  | arrival a => exact resolve_edits s a external

theorem followUps_edits (s : State) (fs : List FollowUp) (external : ∀ f ∈ fs, f.External) : Edits s (s.followUps fs) :=
  inFreeOrder_edits followUp s _ fun f mem t => followUp_edits f t (external f ((List.mem_filter.mp mem).1))

theorem lineNotices_external (s : State) (freed : List Source) : ∀ f ∈ s.lineNotices freed, f.External := by
  intro f mem
  obtain ⟨src, -, notice⟩ := List.mem_filterMap.mp mem
  split at notice
  · split at notice
    · cases notice; trivial
    · cases notice
  · cases notice

theorem allLines_external : ∀ f ∈ allLines, f.External := by
  intro f mem
  obtain ⟨n, -, rfl⟩ := List.mem_map.mp mem
  trivial

/-! ## Line Inputs (R21 to R26) -/

theorem stableChange_edits (s : State) (n : Line) (level : Bool) : Edits s (s.stableChange n level) := by
  have changed : Edits s (s.setLine n { s.line n with stable := level, candidate := none }) := .quiet rfl
  unfold State.stableChange
  dsimp only
  split
  · exact changed.trans (resolve_edits _ _ (lineArrival_external _ n))
  · exact changed

theorem seePin_edits (s : State) (n : Line) : Edits s (s.seePin n) := by
  unfold State.seePin
  dsimp only
  split
  · exact .quiet rfl
  · split
    · exact .refl s
    · split
      · exact stableChange_edits s n _
      · exact .quiet rfl

theorem takeCandidate_edits (s : State) (n : Line) : Edits s (s.takeCandidate n) := by
  unfold State.takeCandidate
  split
  · split
    · exact stableChange_edits s n _
    · exact .refl s
  · exact .refl s

theorem pinTo_edits (s : State) (n : Line) (level : Bool) : Edits s (s.pinTo n level) := by
  unfold State.pinTo
  split
  · exact .refl s
  · split
    · exact .quiet rfl
    · exact (takeCandidate_edits s n).trans ((seePin_edits _ n).after rfl)

theorem takeDueLines_edits (s : State) : Edits s s.takeDueLines :=
  inFreeOrder_edits _ s _ fun n _ t => takeCandidate_edits t n

theorem setLines_edits (s : State) (ls : Vector LineInput 32) : Edits s { s with lines := ls } := .quiet rfl

theorem switchLines_edits (s : State) : Edits s s.switchLines := by
  unfold State.switchLines
  refine (setLines_edits s _).trans (Edits.trans (followUps_edits _ _ fun f mem => ?_) (followUps_edits _ _ allLines_external))
  obtain ⟨n, -, rfl⟩ := List.mem_map.mp mem
  exact lineArrival_external _ n

theorem foldl_seePin_edits (ns : List Line) (s : State) : Edits s (ns.foldl State.seePin s) := by
  induction ns generalizing s with
  | nil => exact .refl s
  | cons n ns ih => exact (seePin_edits s n).trans (ih _)

theorem releaseReset_edits (s : State) : Edits s s.releaseReset := by
  unfold State.releaseReset
  split
  · exact (foldl_seePin_edits _ _).after rfl
  · exact .refl s

/-! ## Control state -/

/-- What UnitConsistent reads of a walk: whether there is one, whether it is a regroup, which agent it resets. -/
theorem unit_of_walk {s t : State} (status : t.command.status = s.command.status) (table : t.table = s.table)
    (agents : ∀ a, (t.port a).state = .draining ↔ (s.port a).state = .draining)
    (some : t.command.walk.isSome = s.command.walk.isSome)
    (regroup : (∃ p, t.command.walk = .some (.regroup p)) ↔ ∃ p, s.command.walk = .some (.regroup p))
    (reset : ∀ a, t.command.walk = .some (.agentReset a) ↔ s.command.walk = .some (.agentReset a)) :
    UnitConsistent s → UnitConsistent t := by
  rintro ⟨h1, h2, h3, h4⟩
  refine ⟨by rw [status, some, h1], by rw [table, regroup, h2], fun a => by rw [agents, reset, h3], by rw [table]; exact h4⟩

/-- A port's own registers and its agent's state change, not to or from DRAINING. -/
theorem Control.port {s : State} {a : Agent} {p : Port} (stack : p.stack = (s.port a).stack)
    (withdrawn : p.withdrawn.Sublist (s.port a).withdrawn)
    (draining : p.state = .draining ↔ (s.port a).state = .draining)
    (asleep : p.state = .asleep → (s.port a).state = .asleep ∨ (s.port a).stack = []) :
    Control s (s.setPort a p) := by
  have cases {C : Port → Port → Prop} (here : C (s.port a) p) (elsewhere : ∀ q, C q q) (b : Agent) :
      C (s.port b) ((s.setPort a p).port b) := by
    by_cases same : b = a
    · subst same; rw [State.port_setPort_self]; exact here
    · rw [State.port_setPort_ne s p same]; exact elsewhere _
  refine ⟨rfl, rfl, rfl, rfl, rfl, rfl, cases (C := fun q q' => q'.stack = q.stack) stack fun _ => rfl,
    cases (C := fun q q' => q'.withdrawn.Sublist q.withdrawn) withdrawn fun _ => .refl _,
    cases (C := fun q q' => q'.state = .asleep → q.state = .asleep ∨ q.stack = []) asleep fun _ => .inl, id,
    unit_of_walk rfl rfl (cases (C := fun q q' => q'.state = .draining ↔ q.state = .draining) draining fun _ => .rfl)
      rfl .rfl fun _ => .rfl, fun _ h => ⟨h, rfl, rfl⟩⟩

theorem setLastResult_edits (s : State) (a : Agent) (x : LastResult) : Edits s (s.setLastResult a x) :=
  (Edit.control (.port (p := { s.port a with lastResult := x }) rfl (.refl _) .rfl .inl)).edits

/-! ## Agent ports (R57 to R69, R75) -/

theorem Retopped.refl (p : Port) : Retopped p p := ⟨rfl, rfl, .inl rfl⟩

theorem Retopped.ticked (p : Port) : Retopped p p.ticked := by
  unfold Port.ticked
  split
  · exact .refl p
  · next r rest stack =>
    split
    · exact .refl p
    · split
      · exact .refl p
      · next n remaining =>
        split
        · exact ⟨rfl, rfl, .inl rfl⟩
        · next more =>
          refine ⟨rfl, rfl, .inr ⟨r, rest, some (n - 1), r.overdue, stack, fun zero => more ?_, rfl⟩⟩
          have : n - 1 = 0 := Option.some.inj zero
          bv_omega

/-- A port whose stack has changed at the top: the same port with that stack, and perhaps a tick at the new top (R91). -/
theorem Retopped.withStack (p : Port) (stack : List EventRecord) : Retopped { p with stack := stack } (p.withStack stack) := by
  unfold Port.withStack
  split
  · have ticked := Retopped.ticked { p with stack := stack, tickDue := false }
    exact ⟨ticked.state, ticked.withdrawn, ticked.stack⟩
  · exact .refl _

/-- Time passes at one port. -/
theorem Edit.serviceAt (s : State) (a : Agent) (p : Port) (h : Retopped (s.port a) p) : Edit s (s.setPort a p) := by
  refine .service s (s.ports.set a.val p a.isLt) fun b => ?_
  change Retopped (s.port b) ((s.setPort a p).port b)
  by_cases same : b = a
  · subst same; rw [State.port_setPort_self]; exact h
  · rw [State.port_setPort_ne s p same]; exact .refl _

theorem claim_edits (s : State) (a : Agent) : Edits s (s.claim a) := by
  have answer (t : State) (w : Word) (x : LastResult) : Edits t (t.answerClaim a w x) :=
    (setLastResult_edits t a x).trans (.quiet rfl)
  unfold State.claim
  split
  · exact answer s _ _
  · next serving =>
    have woken : Edits s (s.wake a) := by
      unfold State.wake
      split
      · next asleep =>
        exact (Edit.control (.port (p := { s.port a with state := .active }) rfl (.refl _) (by simp [asleep]) (by simp))).edits
      · exact .refl s
    have awake : ((s.wake a).port a).state ≠ .asleep := by
      unfold State.wake
      split
      · simp
      · assumption
    dsimp only
    generalize s.wake a = t at woken awake ⊢
    refine woken.trans ?_
    split
    · exact answer t _ _
    · split
      · exact answer t _ _
      · next r chosen =>
        have time : t.deadlineFor r ≠ some 0 := by
          unfold State.deadlineFor
          dsimp only
          split
          · simp
          · next nonzero => simpa using nonzero
        refine Edits.trans (Edit.claim t a r
          { t.port a with
            stack := { r with remaining := t.deadlineFor r } :: (t.port a).stack
            withdrawn := (t.port a).withdrawn.filter (· != r.pair) } _ chosen rfl time rfl rfl awake).edits ?_
        have served := Retopped.withStack (t.port a) ({ r with remaining := t.deadlineFor r } :: (t.port a).stack)
        refine Edits.trans (Edit.serviceAt _ a
          { ((t.port a).withStack ({ r with remaining := t.deadlineFor r } :: (t.port a).stack)).forget r.pair with
            view := .top, lastResult := .claimed } ?_).edits ?_
        · rw [State.port_setPort_self]
          exact ⟨served.state, congrArg (List.filter _) served.withdrawn, served.stack⟩
        · rw [State.setPort_setPort]
          exact .quiet rfl

/-! ### Records that leave a stack -/

theorem flagClear_of_internalOf_none {s : State} {src : Source} (h : internalOf src = none) : FlagClear s src := by
  rintro i rfl
  simp at h

/-- A growth of the grant makes a CRD due (R175). -/
def GrantDue (s : State) : Prop :=
  s.link.state = .up ∧ s.pair.ackDue = false ∧ s.pair.nakDue = false ∧ s.pair.crdDue = false

theorem growGrant_of_due {s : State} (due : GrantDue s) :
    s.growGrant =
      { s with
        receiver := { s.receiver with gOut := s.receiver.gOut + 1 }
        pair := { s.pair with crdDue := true } } := by
  obtain ⟨up, ack, nak, crd⟩ := due
  simp [State.growGrant, up, ack, nak, crd]

theorem growGrant_of_not_due {s : State} (due : ¬GrantDue s) :
    s.growGrant = { s with receiver := { s.receiver with gOut := s.receiver.gOut + 1 } } := by
  unfold State.growGrant
  refine if_neg fun h => due ?_
  simp only [Bool.and_eq_true, decide_eq_true_eq, Bool.not_eq_true'] at h
  obtain ⟨⟨⟨up, ack⟩, nak⟩, crd⟩ := h
  exact ⟨up, ack, nak, crd⟩

/-- The notices of freeing first clear the raised-again flag of the source (R11). -/
theorem freeInService_edits (s : State) (src : Source) :
    Edits s (s.freeInService src).1 ∧ FlagClear (s.freeInService src).1 src := by
  have grown : Edits s (if isChannel src then s.growGrant else s) := by
    split
    · unfold State.growGrant
      dsimp only
      split <;> exact .quiet rfl
    · exact .refl s
  unfold State.freeInService
  generalize (if isChannel src then s.growGrant else s) = t at grown
  dsimp only
  cases internal : internalOf src with
  | none => exact ⟨grown, flagClear_of_internalOf_none internal⟩
  | some i =>
    have source := eq_internalSource internal
    dsimp only
    split
    · refine ⟨grown.trans (Edit.flag t i _ (by simp)).edits, ?_⟩
      rintro j rfl
      simp only [internalOf_internalSource, Option.some.injEq] at internal
      subst internal
      simp
    · next lowered =>
      refine ⟨grown, ?_⟩
      rintro j rfl
      simp only [internalOf_internalSource, Option.some.injEq] at internal
      subst internal
      simpa using lowered

theorem growGrant_setPort (s : State) (a : Agent) (p : Port) :
    (s.setPort a p).growGrant = s.growGrant.setPort a p := by
  by_cases due : GrantDue s
  · rw [growGrant_of_due (s := s) due, growGrant_of_due (s := s.setPort a p) due]; rfl
  · rw [growGrant_of_not_due (s := s) due, growGrant_of_not_due (s := s.setPort a p) due]; rfl

theorem freeInService_setPort (s : State) (a : Agent) (p : Port) (src : Source) :
    ((s.setPort a p).freeInService src).1 = (s.freeInService src).1.setPort a p := by
  have grown : (if isChannel src then (s.setPort a p).growGrant else s.setPort a p) =
      (if isChannel src then s.growGrant else s).setPort a p := by
    split
    · exact growGrant_setPort s a p
    · rfl
  unfold State.freeInService
  rw [grown]
  generalize (if isChannel src then s.growGrant else s) = t
  cases internalOf src with
  | none => rfl
  | some i =>
    change (if (t.internal i).raisedAgain then _ else _ : State × List FollowUp).1 = State.setPort
      (if (t.internal i).raisedAgain then _ else _ : State × List FollowUp).1 a p
    split <;> rfl

/-- The top record leaves the stack and is freed with its notices (R11, R66). -/
theorem free_edits (s : State) (a : Agent) (r : EventRecord) (p q : Port) (popped : Popped (s.port a) r p)
    (served : Retopped p q) : Edits s ((s.setPort a q).freeInService r.source).1 := by
  obtain ⟨freed, clear⟩ := freeInService_edits s r.source
  have port : (s.freeInService r.source).1.port a = s.port a := by
    obtain ⟨_, _, _, same⟩ := freeInService_eq s r.source
    rw [same]; rfl
  rw [freeInService_setPort]
  refine freed.trans (Edits.trans (Edit.free _ a r p (port ▸ popped) clear).edits ?_)
  have last := Edit.serviceAt ((s.freeInService r.source).1.setPort a p) a q (by rwa [State.port_setPort_self])
  rw [State.setPort_setPort] at last
  exact last.edits

theorem freeInService_external (s : State) (src : Source) : ∀ f ∈ (s.freeInService src).2, f.External := by
  unfold State.freeInService
  generalize (if isChannel src then s.growGrant else s) = t
  cases internalOf src with
  | none => exact lineNotices_external t _
  | some i =>
    dsimp only
    split
    · intro f mem
      cases List.mem_singleton.mp mem
      trivial
    · simp

theorem setPort_insertHead (s : State) (a : Agent) (p q : Port) (r : EventRecord) :
    ((s.setPort a p).insertHead r).setPort a q = (s.setPort a q).insertHead r := by
  simp [State.insertHead, State.setQueues, State.setPort, State.queue]

/-- The top record leaves the stack and is handed back (R42, R66). -/
theorem handBack_edits (s : State) (a : Agent) (r r' : EventRecord) (p q : Port) (popped : Popped (s.port a) r p)
    (served : Retopped p q) (kin : Kin r r') (time : r'.remaining = none) : Edits s ((s.setPort a q).handBack r') := by
  have source : r'.source = r.source := congrArg (fun k : Pair × Slot => k.1.source) kin.key
  have back (t : State) (x : EventRecord) (popped : Popped (t.port a) r p) (clear : FlagClear t r.source) (kin : Kin r x)
      (time : x.remaining = none) : Edits t ((t.setPort a q).insertHead x) := by
    refine Edits.trans (Edit.handBack t a r x p popped clear kin time).edits ?_
    have last := Edit.serviceAt ((t.setPort a p).insertHead x) a q
      (by change Retopped ((t.setPort a p).port a) q; rwa [State.port_setPort_self])
    rw [setPort_insertHead] at last
    exact last.edits
  unfold State.handBack
  cases internal : internalOf r'.source with
  | none => exact back s r' popped (flagClear_of_internalOf_none (source ▸ internal)) kin time
  | some i =>
    have sole : ∀ j, r.source = internalSource j → j = i := by
      rintro j eq
      rw [source, eq, internalOf_internalSource] at internal
      exact Option.some.inj internal
    dsimp only
    split
    · refine Edits.trans (Edit.flag s i { s.internal i with raisedAgain := false } (by simp)).edits ?_
      refine back (s.setInternal i _) _ popped (fun j eq => ?_) ⟨kin.key, fun _ => satByte_ne_zero _⟩ time
      rw [sole j eq, State.internal_setInternal_self]
    · next lowered =>
      refine back s r' popped (fun j eq => ?_) kin time
      rw [sole j eq]
      exact Bool.eq_false_iff.mpr lowered

theorem forget_sublist (p : Port) (x : Pair) : (p.forget x).withdrawn.Sublist p.withdrawn := List.filter_sublist

theorem endService_edits (s : State) (a : Agent) (x : Pair) (release : Bool) : Edits s (s.endService a x release) := by
  have late : Edits s (s.setPort a { (s.port a).forget x with lastResult := .late }) :=
    (Edit.control (.port (p := { (s.port a).forget x with lastResult := .late }) rfl (forget_sublist _ x) .rfl .inl)).edits
  unfold State.endService
  dsimp only
  split
  · exact setLastResult_edits s a _
  · split
    · split
      · exact late
      · exact setLastResult_edits s a _
    · next r below stack =>
      have popped : Popped (s.port a) r { s.port a with stack := below } := ⟨stack, rfl, .inl rfl⟩
      have served (result : LastResult) : Retopped { s.port a with stack := below }
          { (s.port a).withStack below with lastResult := result } := by
        have h := Retopped.withStack (s.port a) below
        exact ⟨h.state, h.withdrawn, h.stack⟩
      have pop (result : LastResult) : (s.pop a).setLastResult a result =
          s.setPort a { (s.port a).withStack below with lastResult := result } := by
        simp [State.pop, State.setLastResult, stack]
      split
      · split
        · unfold State.releaseTop
          rw [pop]
          refine handBack_edits s a r _ _ _ popped (served _) ?_ ?_
          · unfold EventRecord.testDeclined
            split <;> exact ⟨rfl, id⟩
          · unfold EventRecord.testDeclined
            split <;> rfl
        · unfold State.completeTop
          dsimp only
          rw [pop]
          exact (free_edits s a r _ _ popped (served _)).trans (followUps_edits _ _ (freeInService_external _ _))
      · split
        · exact setLastResult_edits s a _
        · split
          · exact late
          · exact setLastResult_edits s a _

theorem setAgent_edits (s : State) (a : Agent) (st : AgentState) (x : LastResult) (serving : (s.port a).state ≠ .draining)
    (stays : st ≠ .draining) (asleep : st = .asleep → (s.port a).state = .asleep ∨ (s.port a).stack = []) :
    Edits s (s.setAgent a st x) :=
  (Edit.control (.port (p := { s.port a with state := st, lastResult := x }) rfl (.refl _)
    (iff_of_false stays serving) asleep)).edits

theorem agentCtrl_edits (s : State) (a : Agent) (code : BitVec 4) : Edits s (s.agentCtrl a code) := by
  have refused := setLastResult_edits s a
  have enable : Edits s (s.enableAgent a) := by
    unfold State.enableAgent
    split
    · exact refused _
    · next serving => exact setAgent_edits s a _ _ serving (by simp) (by simp)
  have disable : Edits s (s.disableAgent a) := by
    unfold State.disableAgent
    split
    · exact refused _
    · next active =>
      split
      · exact setAgent_edits s a _ _ (by simp [active]) (by simp) (by simp)
      · exact refused _
    · next off => exact setAgent_edits s a _ _ (by simp [off]) (by simp) (by simp)
    · next asleep => exact setAgent_edits s a _ _ (by simp [asleep]) (by simp) (by simp)
  have sleep : Edits s (s.sleepAgent a) := by
    unfold State.sleepAgent
    split
    · exact refused _
    · next active =>
      split
      · next empty => exact setAgent_edits s a _ _ (by simp [active]) (by simp) fun _ => .inr (by simpa using empty)
      · exact refused _
    · exact refused _
    · next asleep => exact setAgent_edits s a _ _ (by simp [asleep]) (by simp) fun _ => .inl asleep
  unfold State.agentCtrl
  split
  · exact enable
  · split
    · exact disable
    · split
      · exact sleep
      · exact refused _

theorem writeThreshold_edits (s : State) (a : Agent) (w : Word) : Edits s (s.writeThreshold a w) :=
  (Edit.control (.port (p := { s.port a with threshold := classField w }) rfl (.refl _) .rfl .inl)).edits

theorem writeView_edits (s : State) (a : Agent) (w : Word) : Edits s (s.writeView a w) :=
  (Edit.control (.port (p := { s.port a with view := viewField w }) rfl (.refl _) .rfl .inl)).edits

/-! ## Deadline expiry (R93 to R97) -/

/-- The expiry's pop leaves no tick due, so no tick reaches the new top (R91). -/
theorem expiryPop_eq (s : State) (a : Agent) (r : EventRecord) :
    s.expiryPop a r = s.setPort a
      { s.port a with
        stack := (s.port a).stack.tail, tickDue := false, withdrawn := ((s.port a).withdraw r.pair).withdrawn } := rfl

theorem popped_expiryPop {p : Port} {r : EventRecord} {rest : List EventRecord} (stack : p.stack = r :: rest) :
    Popped p r { p with stack := p.stack.tail, tickDue := false, withdrawn := (p.withdraw r.pair).withdrawn } :=
  ⟨by rw [stack, List.tail_cons], rfl, .inr rfl⟩

theorem Kin.escalate (r : EventRecord) : Kin r r.escalate := by
  unfold EventRecord.escalate EventRecord.testDeclined
  dsimp only
  split
  · split <;> exact ⟨rfl, id⟩
  · exact ⟨rfl, id⟩

theorem remaining_escalate (r : EventRecord) : r.escalate.remaining = none := by
  unfold EventRecord.escalate EventRecord.testDeclined
  dsimp only
  split
  · split <;> rfl
  · rfl

theorem expire_edits (s : State) (a : Agent) (r : EventRecord) (rest : List EventRecord)
    (stack : (s.port a).stack = r :: rest) : Edits s (s.expire a r) := by
  have popped := popped_expiryPop stack
  have retire : Edits s (s.retire a r) := by
    unfold State.retire
    dsimp only
    rw [expiryPop_eq]
    refine Edits.trans (free_edits s a r _ _ popped (.refl _)) ((setFault_edits _ _).trans
      (followUps_edits _ _ fun f mem => ?_))
    obtain notice | raising := List.mem_append.mp mem
    · exact freeInService_external _ _ f notice
    · cases List.mem_singleton.mp raising
      trivial
  unfold State.expire
  split
  · have served : Edits s (s.setPort a
        { s.port a with
          stack := { r with remaining := none, overdue := true } :: (s.port a).stack.tail, tickDue := false }) :=
      (Edit.serviceAt s a
        { s.port a with
          stack := { r with remaining := none, overdue := true } :: (s.port a).stack.tail, tickDue := false }
        ⟨rfl, rfl, .inr ⟨r, rest, none, true, stack, by simp, by rw [stack, List.tail_cons]⟩⟩).edits
    unfold State.noteTop
    dsimp only
    split
    · exact served
    · exact served.trans ((setFault_edits _ _).trans (raise_edits _ _ _ _))
  · split
    · exact retire
    · unfold State.returnTop
      rw [expiryPop_eq]
      exact handBack_edits s a r _ _ _ popped (.refl _) ⟨rfl, id⟩ rfl
  · split
    · exact retire
    · unfold State.escalateTop
      rw [expiryPop_eq]
      exact handBack_edits s a r _ _ _ popped (.refl _) (.escalate r) (remaining_escalate r)

theorem takeExpiry_edits (s : State) (a : Agent) : Edits s (s.takeExpiry a) := by
  unfold State.takeExpiry
  split
  · split
    · exact .refl s
    · next r rest stack => exact expire_edits s a r rest stack
  · exact .refl s

end Sys2Proof.Machine
end

section
/-!
PROOF. The commands as sequences of edits, second part: the Event Link. The Forward Queue's window (R158, R161) is said
through the list of link sequence numbers of its sent records.
-/
namespace Sys2Proof.Machine

/-! ## The window of sent records (R161) -/

/-- The link sequence numbers of n sent records, the next one being `next`. -/
def sentSeqs (next : Byte) (n : Nat) : List (Option Byte) :=
  (List.range n).map fun i => some (next - BitVec.ofNat 8 n + BitVec.ofNat 8 i)

@[simp] theorem sentSeqs_zero (next : Byte) : sentSeqs next 0 = [] := rfl

@[simp] theorem length_sentSeqs (next : Byte) (n : Nat) : (sentSeqs next n).length = n := by simp [sentSeqs]

theorem sentSeqs_drop (next : Byte) {n k : Nat} (h : k ≤ n) : (sentSeqs next n).drop k = sentSeqs next (n - k) := by
  obtain ⟨d, rfl⟩ := Nat.exists_eq_add_of_le h
  refine List.ext_getElem (by simp) fun i _ _ => ?_
  simp only [sentSeqs, List.getElem_drop, List.getElem_map, List.getElem_range, Nat.add_sub_cancel_left, Option.some.injEq,
    BitVec.ofNat_add]
  bv_omega

theorem sentSeqs_succ (next : Byte) (n : Nat) : sentSeqs (next + 1) (n + 1) = sentSeqs next n ++ [some next] := by
  have one : (BitVec.ofNat 8 1 : Byte) = 1 := rfl
  simp only [sentSeqs, List.range_succ, List.map_append, List.map_cons, List.map_nil, BitVec.ofNat_add, one]
  congr 1
  · exact List.map_congr_left fun i _ => by congr 1; bv_omega
  · congr 2; bv_omega

theorem sentSeqs_eq_cons (next : Byte) (n : Nat) :
    sentSeqs next (n + 1) = some (next - BitVec.ofNat 8 (n + 1)) :: sentSeqs next n := by
  have rest : sentSeqs next n = (sentSeqs next (n + 1)).drop 1 := (sentSeqs_drop next (Nat.le_add_left 1 n)).symm
  have first : some (next - BitVec.ofNat 8 (n + 1)) = (sentSeqs next (n + 1))[0]'(by simp) := by simp [sentSeqs]
  rw [rest, first]
  exact List.drop_eq_getElem_cons (i := 0) (l := sentSeqs next (n + 1)) (by simp)

/-- A number of the window that is not the last has the next one in the window. -/
theorem succ_mem_sentSeqs {next m : Byte} {n : Nat} (mem : some m ∈ sentSeqs next n) (more : m + 1 ≠ next) :
    some (m + 1) ∈ sentSeqs next n := by
  obtain ⟨i, hi, eq⟩ := List.mem_map.mp mem
  have lt : i < n := List.mem_range.mp hi
  have value : m = next - BitVec.ofNat 8 n + BitVec.ofNat 8 i := (Option.some.inj eq).symm
  have one : (BitVec.ofNat 8 1 : Byte) = 1 := rfl
  refine List.mem_map.mpr ⟨i + 1, List.mem_range.mpr (Nat.lt_of_le_of_ne lt fun last => more ?_), ?_⟩
  · rw [value, ← last, BitVec.ofNat_add, one]; bv_omega
  · rw [value, BitVec.ofNat_add, one, BitVec.add_assoc]

/-- The Transmitter's queue holds n sent records, the oldest, and the window's rules hold. -/
structure WindowAt (st : LinkState) (t : Transmitter) (n : Nat) : Prop where
  length : t.queue.length ≤ 16
  few : n ≤ 4
  seqs : ∃ m, t.queue.map (·.linkSeq) = sentSeqs t.sendSeq n ++ List.replicate m none
  up : st ≠ .up → n = 0
  mark : ∀ m, t.mark = some m → some m ∈ sentSeqs t.sendSeq n

theorem sent_eq_countP (t : Transmitter) : t.sent = (t.queue.map (·.linkSeq)).countP Option.isSome := by
  rw [List.countP_map]; rfl

theorem sent_of_seqs {t : Transmitter} {next : Byte} {n m : Nat}
    (seqs : t.queue.map (·.linkSeq) = sentSeqs next n ++ List.replicate m none) : t.sent = n := by
  have all : ∀ x ∈ sentSeqs next n, Option.isSome x = true := by
    intro x mem
    obtain ⟨i, -, rfl⟩ := List.mem_map.mp mem
    rfl
  rw [sent_eq_countP, seqs, List.countP_append, List.countP_eq_length.mpr all, length_sentSeqs, List.countP_replicate]
  simp

theorem WindowAt.sent {st : LinkState} {t : Transmitter} {n : Nat} (w : WindowAt st t n) : t.sent = n := by
  obtain ⟨m, seqs⟩ := w.seqs
  exact sent_of_seqs seqs

theorem forwardWindow_iff (s : State) : ForwardWindow s ↔ ∃ n, WindowAt s.link.state s.transmitter n := by
  have named (m : Byte) : (∃ f ∈ s.transmitter.queue, f.linkSeq = some m) ↔
      some m ∈ s.transmitter.queue.map (·.linkSeq) := by simp
  constructor
  · rintro ⟨length, few, seqs, up, mark⟩
    refine ⟨s.transmitter.sent, length, few, ⟨_, seqs⟩, up, fun m eq => ?_⟩
    have mem := (named m).mp (mark m eq)
    rw [seqs] at mem
    exact (List.mem_append.mp mem).resolve_right (by simp)
  · rintro ⟨n, w⟩
    have sent := w.sent
    obtain ⟨length, few, ⟨m, seqs⟩, up, mark⟩ := w
    have rest : m = s.transmitter.queue.length - n := by
      have := congrArg List.length seqs
      simp only [List.length_map, List.length_append, length_sentSeqs, List.length_replicate] at this
      omega
    refine ⟨length, sent ▸ few, ?_, sent ▸ up, fun m eq => (named m).mpr ?_⟩
    · rw [sent, seqs, rest]; rfl
    · rw [seqs]
      exact List.mem_append_left _ (mark m eq)

/-- With no sent record and no mark, the window is empty in any state of the link. -/
theorem windowAt_zero {st : LinkState} {t : Transmitter} (length : t.queue.length ≤ 16)
    (queued : ∀ f ∈ t.queue, f.linkSeq = none) (mark : t.mark = none) : WindowAt st t 0 := by
  refine ⟨length, Nat.zero_le 4, ⟨t.queue.length, ?_⟩, fun _ => rfl, by simp [mark]⟩
  simpa [List.eq_replicate_iff] using queued

theorem WindowAt.queued {st : LinkState} {t : Transmitter} (w : WindowAt st t 0) : ∀ f ∈ t.queue, f.linkSeq = none := by
  obtain ⟨m, seqs⟩ := w.seqs
  simp only [sentSeqs_zero, List.nil_append, List.eq_replicate_iff] at seqs
  simpa using seqs.2

theorem WindowAt.mark_zero {st : LinkState} {t : Transmitter} (w : WindowAt st t 0) : t.mark = none := by
  cases h : t.mark with
  | none => rfl
  | some m => exact absurd (w.mark m h) (by simp)

/-- The window reads of the Transmitter its queue, its send seq and its mark. -/
theorem WindowAt.of_same {st : LinkState} {t t' : Transmitter} {n : Nat} (w : WindowAt st t n)
    (queue : t'.queue = t.queue) (seq : t'.sendSeq = t.sendSeq)
    (mark : ∀ m, t'.mark = some m → some m ∈ sentSeqs t.sendSeq n) : WindowAt st t' n := by
  refine ⟨?_, w.few, ?_, w.up, fun m h => ?_⟩
  · rw [queue]; exact w.length
  · rw [queue, seq]; exact w.seqs
  · rw [seq]; exact mark m h

theorem WindowAt.oldestSent {st : LinkState} {t : Transmitter} {n : Nat} (w : WindowAt st t n) :
    t.oldestSent = t.sendSeq - BitVec.ofNat 8 n := by
  obtain ⟨m, seqs⟩ := w.seqs
  have first : t.queue.findSome? (·.linkSeq) = (t.queue.map (·.linkSeq)).findSome? id := by
    rw [List.findSome?_map]; rfl
  unfold Transmitter.oldestSent
  rw [first, seqs]
  cases n with
  | zero => simp
  | succ n => simp [sentSeqs_eq_cons]

/-- The k oldest records, all sent, leave the queue. -/
theorem WindowAt.drop {st : LinkState} {t t' : Transmitter} {n k : Nat} (w : WindowAt st t n) (le : k ≤ n)
    (queue : t'.queue = t.queue.drop k) (seq : t'.sendSeq = t.sendSeq)
    (mark : ∀ m, t'.mark = some m → some m ∈ sentSeqs t.sendSeq (n - k)) : WindowAt st t' (n - k) := by
  obtain ⟨length, few, ⟨m, seqs⟩, up, -⟩ := w
  refine ⟨?_, by omega, ⟨m, ?_⟩, fun h => by have := up h; omega, fun m h => seq ▸ mark m h⟩
  · rw [queue, List.length_drop]; omega
  · rw [queue, List.map_drop, seqs, List.drop_append_of_le_length (by simpa using le), sentSeqs_drop _ le, seq]

/-- After an acknowledgement the mark names a sent record, if there is a mark (R164). -/
theorem mem_of_movedMark {t : Transmitter} {n : Nat} {old : Option Byte}
    (seqs : ∃ m, t.queue.map (·.linkSeq) = sentSeqs t.sendSeq n ++ List.replicate m none)
    (oldest : t.oldestSent = t.sendSeq - BitVec.ofNat 8 n) (m : Byte)
    (moved : t.movedMark old = some m) : some m ∈ sentSeqs t.sendSeq n := by
  obtain ⟨k, seqs⟩ := seqs
  have sent := sent_of_seqs seqs
  unfold Transmitter.movedMark at moved
  split at moved
  · cases moved
  · next m' =>
    split at moved
    · next present =>
      cases moved
      have mem : some m ∈ t.queue.map (·.linkSeq) := by simpa using present
      rw [seqs] at mem
      exact (List.mem_append.mp mem).resolve_right (by simp)
    · split at moved
      · cases moved
      · next some =>
        cases moved
        obtain ⟨j, rfl⟩ : ∃ j, n = j + 1 := ⟨n - 1, by omega⟩
        rw [oldest, sentSeqs_eq_cons]
        exact List.mem_cons_self

/-! ## Link changes -/

/-- A change of the link and the Transmitter that keeps the window, every other part of the core staying. -/
theorem LinkChange.of_window {s t : State}
    (core : ({ t with transmitter := s.transmitter, link := s.link } : State).core = s.core)
    (forward : t.forwardRecords.Sublist s.forwardRecords)
    (window : ∀ n, WindowAt s.link.state s.transmitter n → ∃ n', WindowAt t.link.state t.transmitter n') :
    LinkChange s t := by
  refine ⟨core, forward, fun h => ?_⟩
  obtain ⟨n, w⟩ := (forwardWindow_iff s).mp h
  exact (forwardWindow_iff t).mpr (window n w)

/-- Timers, counts and the mark's removal leave the window. -/
theorem LinkChange.of_same {s t : State}
    (core : ({ t with transmitter := s.transmitter, link := s.link } : State).core = s.core)
    (queue : t.transmitter.queue = s.transmitter.queue) (seq : t.transmitter.sendSeq = s.transmitter.sendSeq)
    (mark : t.transmitter.mark = s.transmitter.mark) (state : t.link.state = s.link.state) : LinkChange s t := by
  refine .of_window core (by simp only [State.forwardRecords, queue]; exact .refl _) fun n w => ⟨n, ?_⟩
  rw [state]
  exact w.of_same queue seq fun m h => w.mark m (mark ▸ h)

theorem forwardRecords_requeued (t : Transmitter) : t.requeued.queue.map (·.record) = t.queue.map (·.record) := by
  simp [Transmitter.requeued]

/-- Every sent record becomes queued again, the mark is removed (R149, R155, R160). -/
theorem LinkChange.requeued {s t : State}
    (core : ({ t with transmitter := s.transmitter, link := s.link } : State).core = s.core)
    (queue : t.transmitter.queue = s.transmitter.requeued.queue) (mark : t.transmitter.mark = none) : LinkChange s t := by
  refine .of_window core ?_ fun n w => ⟨0, windowAt_zero ?_ ?_ mark⟩
  · simp only [State.forwardRecords, queue, forwardRecords_requeued]; exact .refl _
  · simpa [queue, Transmitter.requeued] using w.length
  · simp [queue, Transmitter.requeued]

/-- A link that was not UP has sent nothing, so it may come into any state with any send seq (R153). -/
theorem LinkChange.of_not_up {s t : State}
    (core : ({ t with transmitter := s.transmitter, link := s.link } : State).core = s.core)
    (down : s.link.state ≠ .up) (queue : t.transmitter.queue = s.transmitter.queue)
    (mark : t.transmitter.mark = s.transmitter.mark ∨ t.transmitter.mark = none) : LinkChange s t := by
  refine .of_window core (by simp only [State.forwardRecords, queue]; exact .refl _) fun n w => ⟨0, ?_⟩
  obtain rfl := w.up down
  refine windowAt_zero (queue ▸ w.length) (queue ▸ w.queued) ?_
  obtain same | removed := mark
  · rw [same, w.mark_zero]
  · exact removed

/-- The k oldest records are acknowledged, all of them sent (R166, R167). -/
theorem LinkChange.acknowledged {s t : State} {k : Nat}
    (core : ({ t with transmitter := s.transmitter, link := s.link } : State).core = s.core)
    (le : k ≤ s.transmitter.sent) (queue : t.transmitter.queue = s.transmitter.queue.drop k)
    (seq : t.transmitter.sendSeq = s.transmitter.sendSeq) (state : t.link.state = s.link.state)
    (mark : ∀ n, WindowAt s.link.state s.transmitter n → k ≤ n → ∀ m, t.transmitter.mark = some m →
      some m ∈ sentSeqs s.transmitter.sendSeq (n - k)) : LinkChange s t := by
  refine .of_window core ?_ fun n w => ⟨n - k, ?_⟩
  · simp only [State.forwardRecords, queue, List.map_drop]
    exact List.drop_sublist k _
  · have le' : k ≤ n := w.sent ▸ le
    rw [state]
    exact w.drop le' queue seq (mark n w le')

/-- The mark of the k oldest records' acknowledgement (R164). -/
theorem WindowAt.mark_acknowledged {st : LinkState} {t : Transmitter} {n k : Nat} (w : WindowAt st t n) (le : k ≤ n)
    (timeout : Word) (m : Byte) (h : (t.acknowledged k timeout).mark = some m) :
    some m ∈ sentSeqs t.sendSeq (n - k) := by
  have dropped : WindowAt st { t with queue := t.queue.drop k, mark := none } (n - k) := w.drop le rfl rfl (by simp)
  exact mem_of_movedMark (t := { t with queue := t.queue.drop k }) dropped.seqs dropped.oldestSent m h

theorem LinkChange.edits {s t : State} (h : LinkChange s t) : Edits s t := (Edit.link h).edits

/-! ## LINK_STOP, LINK_START, UP, restart (R149 to R155) -/

theorem stopLink_edits (s : State) : Edits s s.stopLink :=
  LinkChange.edits (s := s) (t := s.stopLink) (.requeued rfl rfl rfl)

theorem startLink_edits (s : State) (down : s.link.state = .stopped ∨ s.link.state = .down) : Edits s s.startLink :=
  LinkChange.edits (s := s) (t := s.startLink)
    (.of_not_up rfl (by obtain h | h := down <;> simp [h]) rfl (.inl rfl))

theorem comeUp_edits (s : State) (grant : Byte) (waiting : s.link.state = .helloSent) : Edits s (s.comeUp grant) :=
  LinkChange.edits (s := s) (t := s.comeUp grant) (.of_not_up rfl (by simp [waiting]) rfl (.inr rfl))

theorem peerRestart_edits (s : State) (session grant : Byte) : Edits s (s.peerRestart session grant) := by
  let restarted : State :=
    { s with
      link := { s.link with peerGrant := grant }
      pair :=
        { s.pair with
          helloAckDue := true, nakDue := false, ackDue := false, crdDue := false, answerSession := session }
      transmitter := s.transmitter.requeued.fresh
      receiver := { s.receiver with expected := 0, nakFlag := false } }
  refine Edits.trans (LinkChange.edits (s := s) (t := restarted) (.requeued rfl rfl rfl)) ?_
  exact (setFault_edits _ _).trans (raise_edits _ _ _ _)

/-! ## Entry into DOWN (R156, R176) -/

theorem Kin.diverted (r : EventRecord) (b : Agent) : Kin r ({ r with retarget := some b } : EventRecord).testDeclined := by
  unfold EventRecord.testDeclined
  split <;> exact ⟨rfl, id⟩

theorem remaining_testDeclined (r : EventRecord) : r.testDeclined.remaining = r.remaining := by
  unfold EventRecord.testDeclined
  split <;> rfl

/-- The Forward Queue emptied. -/
def State.withoutForward (s : State) : State := s.setTransmitter { s.transmitter with queue := [] }

/-- The queued records of the Forward Queue are diverted or lost one by one, from the oldest. -/
theorem divertAll_edits (q : List Forwarded) (s : State) (queue : s.transmitter.queue = q)
    (queued : ∀ f ∈ q, f.linkSeq = none) (mark : s.transmitter.mark = none) :
    Edits s (q.foldl State.divertOrLose s.withoutForward) := by
  induction q generalizing s with
  | nil =>
    have empty : s.withoutForward = s := by
      rw [State.withoutForward, ← queue]; rfl
    rw [List.foldl_nil, empty]
    exact .refl s
  | cons f rest ih =>
    let u := s.setTransmitter { s.transmitter with queue := rest }
    have one : Edits s (u.divertOrLose f) := by
      unfold State.divertOrLose
      split
      · next b _ =>
        exact (Edit.divert s f rest _ queue (queue ▸ queued) mark (.diverted f.record b)
          (remaining_testDeclined _)).edits
      · refine Edits.trans (LinkChange.edits (s := s) (t := u) (.of_window rfl ?_ fun n w => ⟨0, ?_⟩)) (.quiet rfl)
        · simp only [State.forwardRecords, queue, List.map_cons]
          exact List.sublist_cons_self _ _
        · refine windowAt_zero ?_ (fun g mem => queued g (List.mem_cons_of_mem _ mem)) mark
          have := w.length
          rw [queue, List.length_cons] at this
          exact Nat.le_of_succ_le this
    obtain ⟨qs, faults, shape⟩ := divertOrLose_eq u f
    have commute : (u.divertOrLose f).withoutForward = s.withoutForward.divertOrLose f := by
      unfold State.divertOrLose
      cases f.record.snap.fallback <;> rfl
    rw [List.foldl_cons, ← commute]
    refine one.trans (ih _ ?_ (fun g mem => queued g (List.mem_cons_of_mem _ mem)) ?_)
    · rw [shape]; rfl
    · rw [shape]; exact mark

/-- What is diverted or lost of a forwarded record does not depend on its link sequence number. -/
theorem foldl_divertOrLose_requeued (q : List Forwarded) (s : State) :
    (q.map fun f => ({ f with linkSeq := none } : Forwarded)).foldl State.divertOrLose s =
      q.foldl State.divertOrLose s := by
  rw [List.foldl_map]
  rfl

theorem enterDown_edits (s : State) (cause : DownCause) : Edits s (s.enterDown cause) := by
  let down : State :=
    { s with
      link := { s.link with state := .down, timer := .stopped, downCause := cause }
      pair := s.pair.cancelled
      transmitter := { s.transmitter.requeued with timer := .stopped, mark := none } }
  have stopped : Edits s down := LinkChange.edits (.requeued rfl rfl rfl)
  have diverted := divertAll_edits _ (down.setFault .linkDown) rfl (by simp [down, Transmitter.requeued]) rfl
  rw [show (down.setFault .linkDown).transmitter.queue =
    s.transmitter.queue.map fun f => ({ f with linkSeq := none } : Forwarded) from rfl,
    foldl_divertOrLose_requeued] at diverted
  unfold State.enterDown
  refine stopped.trans ((setFault_edits down .linkDown).trans (diverted.trans (followUps_edits _ _ fun f mem => ?_)))
  obtain notice | raising := List.mem_append.mp mem
  · exact lineNotices_external _ _ f notice
  · cases List.mem_singleton.mp raising
    trivial

/-! ## Frames taken (R145 to R174) -/

theorem takeAck_edits (s : State) (next grant : Byte) : Edits s (s.takeAck next grant) := by
  unfold State.takeAck
  split
  · dsimp only
    generalize s.transmitter.distance next = k
    split
    · exact .quiet rfl
    · next counts =>
      have le : k ≤ s.transmitter.sent := by omega
      let acked := (s.setPeerGrant grant).setTransmitter { s.transmitter.acknowledged k s.params.timeout with retry := 0 }
      refine Edits.trans (LinkChange.edits (s := s) (t := acked) (.acknowledged (k := k) rfl le rfl rfl rfl ?_))
        (followUps_edits _ _ (lineNotices_external _ _))
      exact fun n w le m h => w.mark_acknowledged le s.params.timeout m h
  · exact .refl s

/-- The record a NAK asks for again is the oldest that stays sent (R167). -/
theorem WindowAt.mem_of_distance {st : LinkState} {t : Transmitter} {n : Nat} (w : WindowAt st t n) {next : Byte}
    (lt : t.distance next < n) : some next ∈ sentSeqs t.sendSeq (n - t.distance next) := by
  have oldest := w.oldestSent
  have next_eq : next = t.oldestSent + BitVec.ofNat 8 (t.distance next) := by
    rw [Transmitter.distance, BitVec.ofNat_toNat, BitVec.setWidth_eq]; bv_omega
  refine List.mem_map.mpr ⟨0, List.mem_range.mpr (by omega), ?_⟩
  obtain ⟨d, eq⟩ := Nat.exists_eq_add_of_lt lt
  have rest : n - t.distance next = d + 1 := by omega
  rw [rest, Option.some.injEq]
  generalize t.distance next = j at next_eq eq
  subst eq
  rw [next_eq, oldest]
  simp only [BitVec.ofNat_add]
  bv_omega

theorem takeNak_edits (s : State) (next grant : Byte) : Edits s (s.takeNak next grant) := by
  unfold State.takeNak
  split
  · dsimp only
    split
    · exact .quiet rfl
    · next counts =>
      have le : s.transmitter.distance next ≤ s.transmitter.sent := Nat.not_lt.mp counts
      refine Edits.trans ?_ (followUps_edits _ _ (lineNotices_external _ _))
      generalize kept : (if s.transmitter.distance next = 0 then s.transmitter
        else s.transmitter.acknowledged (s.transmitter.distance next) s.params.timeout) = t
      have queue : t.queue = s.transmitter.queue.drop (s.transmitter.distance next) := by
        rw [← kept]
        split
        · next zero => rw [zero, List.drop_zero]
        · rfl
      have seq : t.sendSeq = s.transmitter.sendSeq := by
        rw [← kept]
        split <;> rfl
      split
      · refine LinkChange.edits (s := s) (t := (s.setPeerGrant grant).setTransmitter t)
          (.acknowledged rfl le queue seq rfl fun n w le m h => ?_)
        change t.mark = some m at h
        rw [← kept] at h
        split at h
        · next zero => rw [zero]; exact w.mark m h
        · exact w.mark_acknowledged le s.params.timeout m h
      · next more =>
        let resent := (s.setPeerGrant grant).startResend { t with retry := satFin t.retry } (some next)
        refine LinkChange.edits (s := s) (t := resent) (.acknowledged rfl le queue seq rfl fun n w le m h => ?_)
        cases h
        refine w.mem_of_distance (Nat.lt_of_le_of_ne le fun all => more ?_)
        have none : WindowAt s.link.state { t with mark := none } (n - s.transmitter.distance next) :=
          w.drop le queue seq (by simp)
        have zero := none.sent
        rw [all, Nat.sub_self] at zero
        exact zero
  · exact .refl s

theorem takeHello_edits (s : State) (session grant : Byte) : Edits s (s.takeHello session grant) := by
  unfold State.takeHello
  split
  · exact .quiet rfl
  · exact peerRestart_edits s session grant
  · exact .refl s
  · exact .refl s

theorem takeHelloAck_edits (s : State) (session grant : Byte) : Edits s (s.takeHelloAck session grant) := by
  unfold State.takeHelloAck
  split
  · next h => exact comeUp_edits s grant h.1
  · exact .refl s

theorem takeCrd_edits (s : State) (grant : Byte) : Edits s (s.takeCrd grant) := by
  unfold State.takeCrd
  split
  · exact .quiet rfl
  · exact .refl s

theorem growGrantBesideAck_edits (s : State) : Edits s s.growGrantBesideAck := by
  unfold State.growGrantBesideAck
  dsimp only
  split <;> exact .quiet rfl

theorem takeEvt_edits (s : State) (seq : Byte) (channel : Fin 16) (count : Byte) (payload : Payload) :
    Edits s (s.takeEvt seq channel count payload) := by
  unfold State.takeEvt
  split
  · split
    · split
      · have resolved := resolve_edits s ⟨channelSource channel, payload, count⟩
          (by simp only [channelSource]; omega)
        unfold State.deliverEvt
        dsimp only
        split
        · exact resolved.trans (.quiet rfl)
        · exact resolved.trans ((growGrantBesideAck_edits _).trans (.quiet rfl))
      · exact (setFault_edits _ _).trans (raise_edits _ _ _ _)
    · unfold State.evtOutOfOrder
      dsimp only
      split
      · exact .quiet rfl
      · split
        · exact .refl s
        · exact .quiet rfl
  · exact .refl s

theorem takeFrame_edits (s : State) (f : Frame) : Edits s (s.takeFrame f) := by
  have hunting : Edits s { s with receiver := { s.receiver with logic := .hunt } } := .quiet rfl
  cases f with
  | hello session grant => exact hunting.trans (takeHello_edits _ session grant)
  | helloAck session grant => exact hunting.trans (takeHelloAck_edits _ session grant)
  | evt seq channel count payload => exact hunting.trans (takeEvt_edits _ seq channel.toFin count payload)
  | ack next grant => exact hunting.trans (takeAck_edits _ next grant)
  | nak next grant => exact hunting.trans (takeNak_edits _ next grant)
  | crd grant => exact hunting.trans (takeCrd_edits _ grant)

theorem receiveFrame_edits (s : State) (f : Frame) : Edits s (s.receiveFrame f) := by
  unfold State.receiveFrame
  split
  · exact takeFrame_edits s f
  · exact .refl s

theorem discardFrame_edits (s : State) : Edits s s.discardFrame := .quiet rfl

theorem receiveByte_edits (s : State) (b : Byte) : Edits s (s.receiveByte b) := by
  unfold State.receiveByte
  split
  · exact .quiet rfl
  · exact discardFrame_edits s
  · exact takeFrame_edits s _

theorem damage_edits (s : State) (d : Damage) : Edits s (s.damage d) := by
  cases d with
  | byte b =>
    unfold State.damage
    dsimp only
    split
    · exact discardFrame_edits s
    · exact .refl s
  | framingError =>
    unfold State.damage
    dsimp only
    split
    · exact .refl s
    · exact discardFrame_edits s
  | truncation =>
    unfold State.damage
    dsimp only
    split
    · exact .refl s
    · exact discardFrame_edits s

/-! ## Frames sent (R146, R151, R163 to R165) -/

/-- The arbiter starts an EVT only in UP, and with no mark only when a first send is allowed (R147, R163). -/
theorem starts_evt {s : State} (starts : s.starts .evt = true) :
    s.link.state = .up ∧ (s.transmitter.mark = none → s.firstSendAllowed = true) := by
  have evt : s.nextRequest = some .evt := by
    simp only [State.starts, Bool.and_eq_true, beq_iff_eq] at starts
    exact starts.2
  have due : s.evtDue = true := by
    grind [State.nextRequest]
  simp only [State.evtDue, Bool.and_eq_true, beq_iff_eq, Bool.or_eq_true] at due
  exact ⟨due.1, fun mark => due.2.resolve_left (by simp [mark])⟩

theorem markFirstQueued_records (seq : Byte) (q : List Forwarded) :
    (markFirstQueued seq q).map (·.record) = q.map (·.record) := by
  induction q with
  | nil => rfl
  | cons f rest ih =>
    unfold markFirstQueued
    split
    · rfl
    · simp [ih]

/-- The oldest queued record follows the sent ones. -/
theorem markFirstQueued_seqs (seq : Byte) (q : List Forwarded) {sent : List (Option Byte)} {m : Nat}
    (all : ∀ x ∈ sent, x ≠ none) (h : q.map (·.linkSeq) = sent ++ List.replicate (m + 1) none) :
    (markFirstQueued seq q).map (·.linkSeq) = sent ++ some seq :: List.replicate m none := by
  induction sent generalizing q with
  | nil =>
    cases q with
    | nil => simp at h
    | cons f rest =>
      simp only [List.map_cons, List.nil_append, List.replicate_succ, List.cons.injEq] at h
      obtain ⟨queued, tail⟩ := h
      simp [markFirstQueued, queued, tail]
  | cons x sent ih =>
    cases q with
    | nil => simp at h
    | cons f rest =>
      simp only [List.map_cons, List.cons_append, List.cons.injEq] at h
      obtain ⟨first, tail⟩ := h
      have isSent : f.linkSeq.isNone = false := by
        cases h : f.linkSeq with
        | none => exact absurd (first.symm.trans h) (all x List.mem_cons_self)
        | some _ => rfl
      simp only [markFirstQueued, isSent]
      simp only [Bool.false_eq_true, if_false, List.map_cons, List.cons_append, first,
        ih rest (fun y mem => all y (List.mem_cons_of_mem _ mem)) tail]

theorem sendFirst_edits (s : State) : Edits s s.sendFirst := by
  unfold State.sendFirst
  split
  · next starts =>
    simp only [Bool.and_eq_true, Option.isNone_iff_eq_none] at starts
    obtain ⟨starts, mark⟩ := starts
    obtain ⟨up, allowed⟩ := starts_evt starts
    have few : s.transmitter.sent < 4 := by
      have := allowed mark
      simp only [State.firstSendAllowed, Bool.and_eq_true, decide_eq_true_eq] at this
      exact this.1.2
    dsimp only
    split
    · next f found =>
      let sending : State :=
        { s with
          transmitter :=
            { s.transmitter with
              queue := markFirstQueued s.transmitter.sendSeq s.transmitter.queue
              sendSeq := s.transmitter.sendSeq + 1
              firstSends := s.transmitter.firstSends + 1 }
          pair := s.pair.begin (f.record.evtFrame s.transmitter.sendSeq) true }
      refine LinkChange.edits (s := s) (t := sending) (.of_window rfl ?_ fun n w => ⟨n + 1, ?_⟩)
      · simp only [State.forwardRecords, sending, markFirstQueued_records]
        exact .refl _
      · obtain ⟨m, seqs⟩ := w.seqs
        have some : ∃ j, m = j + 1 := by
          refine ⟨m - 1, ?_⟩
          have queued : none ∈ s.transmitter.queue.map (·.linkSeq) :=
            List.mem_map.mpr ⟨f, List.mem_of_find?_eq_some found, by simpa using List.find?_some found⟩
          rw [seqs] at queued
          have : m ≠ 0 := by
            rintro rfl
            simp [sentSeqs] at queued
          omega
        obtain ⟨j, rfl⟩ := some
        refine ⟨?_, ?_, ⟨j, ?_⟩, fun h => absurd up h, fun k h => ?_⟩
        · have := congrArg List.length (markFirstQueued_records s.transmitter.sendSeq s.transmitter.queue)
          simp only [List.length_map] at this
          have := w.length
          simp only [sending]
          omega
        · have := w.sent
          omega
        · rw [sentSeqs_succ, markFirstQueued_seqs _ _ (by simp [sentSeqs]) seqs, List.append_assoc]
          rfl
        · change s.transmitter.mark = _ at h
          rw [mark] at h
          cases h
    · exact .refl s
  · exact .refl s

theorem resend_edits (s : State) : Edits s s.resend := by
  unfold State.resend
  split
  · next m mark =>
    split
    · split
      · next f _ =>
        let sending : State :=
          { s with
            transmitter :=
              { s.transmitter with mark := if m + 1 = s.transmitter.sendSeq then none else some (m + 1) }
            pair := s.pair.begin (f.record.evtFrame m) true }
        refine LinkChange.edits (s := s) (t := sending) (.of_window rfl (.refl _) fun n w => ⟨n, ?_⟩)
        refine w.of_same rfl rfl fun k h => ?_
        dsimp only [sending] at h
        split at h
        · cases h
        · next more =>
          cases h
          exact succ_mem_sentSeqs (w.mark m mark) more
      · exact .refl s
    · exact .refl s
  · exact .refl s

theorem endEvt_edits (s : State) : Edits s s.endEvt := by
  unfold State.endEvt
  split
  · next live _ =>
    have ended : Edits s { s with pair := { s.pair with sending := none } } := .quiet rfl
    dsimp only
    split
    · exact ended.trans (LinkChange.edits (.of_same rfl rfl rfl rfl rfl))
    · exact ended
  · exact .refl s

theorem endHello_edits (s : State) : Edits s s.endHello := by
  unfold State.endHello
  split
  · dsimp only
    split <;> exact .quiet rfl
  · exact .refl s

theorem sendHello_edits (s : State) : Edits s s.sendHello := by
  unfold State.sendHello
  split
  · exact .quiet rfl
  · exact .refl s

theorem sendHelloAck_edits (s : State) : Edits s s.sendHelloAck := by
  unfold State.sendHelloAck
  split
  · exact .quiet rfl
  · exact .refl s

theorem sendAck_edits (s : State) : Edits s s.sendAck := by
  unfold State.sendAck
  split
  · exact .quiet rfl
  · exact .refl s

theorem sendNak_edits (s : State) : Edits s s.sendNak := by
  unfold State.sendNak
  split
  · exact .quiet rfl
  · exact .refl s

theorem sendCrd_edits (s : State) : Edits s s.sendCrd := by
  unfold State.sendCrd
  split
  · exact .quiet rfl
  · exact .refl s

/-! ## Timer expiries (R151, R168) -/

theorem helloExpiry_edits (s : State) : Edits s s.helloExpiry := by
  unfold State.helloExpiry
  split
  · split
    · exact .quiet rfl
    · exact enterDown_edits s _
  · exact .refl s

theorem ackExpiry_edits (s : State) : Edits s s.ackExpiry := by
  unfold State.ackExpiry
  split
  · let t := { s.transmitter with retry := satFin s.transmitter.retry, timer := .stopped }
    have counted : Edits s (s.setTransmitter t) := LinkChange.edits (.of_same rfl rfl rfl rfl rfl)
    dsimp only
    split
    · exact counted.trans (enterDown_edits (s.setTransmitter t) _)
    · refine LinkChange.edits (s := s) (t := s.startResend t (if t.sent = 0 then none else some t.oldestSent))
        (.of_window rfl (.refl _) fun n w => ⟨n, w.of_same rfl rfl fun m h => ?_⟩)
      change (if t.sent = 0 then none else some t.oldestSent) = some m at h
      split at h
      · cases h
      · next some =>
        cases h
        have same : WindowAt s.link.state t n := w.of_same rfl rfl w.mark
        obtain ⟨j, rfl⟩ : ∃ j, n = j + 1 := ⟨n - 1, by have := same.sent; omega⟩
        rw [same.oldestSent, sentSeqs_eq_cons]
        exact List.mem_cons_self
  · exact .refl s

end Sys2Proof.Machine
end

section
/-!
PROOF. The commands as sequences of edits, third part: the Command Unit and its walks, the Timebase, bus writes; and what
every command but a power-on reset is: a sequence of edits.
-/
namespace Sys2Proof.Machine

/-! ## Changes of the control state -/

/-- Commands, walks and the table's session change; ports, records and link stay. -/
theorem Control.of_ports {s t : State}
    (core : ({ t with command := s.command, table := s.table } : State).core = s.core)
    (valid : ActiveValid s → ActiveValid t) (unit : UnitConsistent s → UnitConsistent t) (frozen : KeepsFrozen s t) :
    Control s t := by
  simp only [State.core, Prod.mk.injEq] at core
  obtain ⟨pending, queues, ports, transmitter, link, -, -, -, -, -, -, internals, reserve⟩ := core
  have port : ∀ a, t.port a = s.port a := fun a => by simp only [State.port, ports]
  exact ⟨pending, queues, transmitter, link, internals, reserve, fun a => by rw [port], fun a => port a ▸ .refl _,
    fun a h => .inl (port a ▸ h), valid, unit, frozen⟩

theorem Edits.of_control {s t : State} (h : Control s t) : Edits s t := (Edit.control h).edits

theorem Edits.of_wiped {s t : State} (h : Wiped s t) : Edits s t := (Edit.wipe h).edits

theorem walk_eq_none {s : State} (idle : s.walking = false) : s.command.walk = none := by
  simpa [State.walking] using idle

/-- With no walk in flight no session is COMMITTING and no agent DRAINING. -/
theorem UnitConsistent.idle {s : State} (h : UnitConsistent s) (idle : s.command.walk = none) :
    s.table.session ≠ .committing ∧ ∀ a, (s.port a).state ≠ .draining := by
  obtain ⟨-, regroup, reset, -⟩ := h
  simp only [idle, reduceCtorEq, exists_false, iff_false] at regroup reset
  exact ⟨regroup, reset⟩

/-- A command that ends in the step of its write (R187, R188). -/
theorem unit_of_finished {s t : State} (idle : s.command.walk = none) (ended : t.command.walk = none)
    (status : t.command.status ≠ .busy) (session : t.table.session = .committing → s.table.session = .committing)
    (ports : t.ports = s.ports)
    (frozen : (s.table.frozen = true → s.table.session = .closed) → t.table.frozen = true → t.table.session = .closed)
    (h : UnitConsistent s) : UnitConsistent t := by
  obtain ⟨open', serving⟩ := h.idle idle
  obtain ⟨-, -, -, closed⟩ := h
  refine ⟨by simp [ended, status], ?_, fun a => ?_, frozen closed⟩
  · simpa [ended] using fun committing => open' (session committing)
  · have port : t.port a = s.port a := by simp only [State.port, ports]
    simpa [ended, port] using serving a

theorem finish_edits {s : State} (idle : s.walking = false) (page : Agent) (code operand : Byte) {st : CommandStatus}
    (status : st ≠ .busy) (reason : Reason) (result : Word) :
    Edits s (s.finish page code operand st reason result) :=
  .of_control (.of_ports rfl id (unit_of_finished (walk_eq_none idle) rfl status id rfl id) fun _ h => ⟨h, rfl, rfl⟩)

/-- The session or the frozen flag changes, and the command ends (R111, R112, R122). -/
theorem table_finish_edits {s : State} (idle : s.walking = false) (table : SourceTable) (page : Agent)
    (code operand : Byte) {st : CommandStatus} (status : st ≠ .busy) (reason : Reason) (result : Word)
    (active : table.active = s.table.active) (deadlines : table.activeDeadlines = s.table.activeDeadlines)
    (session : table.session = .committing → s.table.session = .committing)
    (stays : s.table.frozen = true → table.frozen = true)
    (frozen : (s.table.frozen = true → s.table.session = .closed) → table.frozen = true → table.session = .closed) :
    Edits s (({ s with table := table } : State).finish page code operand st reason result) := by
  refine .of_control (.of_ports rfl (fun valid src => ?_)
    (unit_of_finished (walk_eq_none idle) rfl status session rfl frozen) fun _ h => ⟨stays h, active, deadlines⟩)
  have := valid src
  rw [State.entry] at this ⊢
  change (table.active[src]).invalid src = false
  rwa [active]

theorem takeCommand_edits (s : State) (code : Byte) (carry : State → State)
    (edits : s.walking = false → Edits s (carry s)) : Edits s (s.takeCommand code carry) := by
  unfold State.takeCommand
  split
  · exact reportControl_edits s _ _ _
  · next idle => exact edits (by simpa using idle)

/-! ## Edit session (R111 to R115, R122) -/

theorem editBegin_edits {s : State} (page : Agent) (operand : Byte) (idle : s.walking = false) :
    Edits s (s.editBegin page operand) := by
  unfold State.editBegin
  split
  · exact finish_edits idle _ _ _ (by simp) _ _
  · next thawed =>
    split
    · exact table_finish_edits idle _ _ _ _ (by simp) _ _ rfl rfl (by simp) id fun _ h => absurd h thawed
    · exact finish_edits idle _ _ _ (by simp) _ _

theorem editAbandon_edits {s : State} (page : Agent) (operand : Byte) (idle : s.walking = false) :
    Edits s (s.editAbandon page operand) := by
  unfold State.editAbandon
  split
  · exact table_finish_edits idle _ _ _ _ (by simp) _ _ rfl rfl (by simp) id fun _ _ => rfl
  · exact finish_edits idle _ _ _ (by simp) _ _

theorem freeze_edits {s : State} (page : Agent) (operand : Byte) (idle : s.walking = false) :
    Edits s (s.freeze page operand) := by
  unfold State.freeze
  split
  · next closed => exact table_finish_edits idle _ _ _ _ (by simp) _ _ rfl rfl id (fun _ => rfl) fun _ _ => closed
  · exact finish_edits idle _ _ _ (by simp) _ _

theorem invalidEntry_eq_none {s : State} (h : s.invalidEntry = none) (src : Source) :
    (s.table.staging[src]).invalid src = false := by
  simpa using List.find?_eq_none.mp h src (List.mem_finRange src)

/-- The COMMIT switch (R115): the table and the walk together. -/
theorem switchTable_edits {s : State} (page : Agent) (operand : Byte) (idle : s.walking = false)
    (opened : s.table.session = .opened) (valid : s.invalidEntry = none) : Edits s (s.switchTable page operand) := by
  have thawed : UnitConsistent s → s.table.frozen ≠ true := by
    rintro ⟨-, -, -, closed⟩ frozen
    rw [closed frozen] at opened
    cases opened
  refine Edits.trans ?_ (switchLines_edits _)
  refine .of_control (.of_ports rfl (fun _ => invalidEntry_eq_none valid) (fun h => ?_)
    fun h frozen => absurd frozen (thawed h))
  obtain ⟨-, serving⟩ := h.idle (walk_eq_none idle)
  refine ⟨?_, ?_, fun a => ?_, fun frozen => absurd frozen (thawed h)⟩
  · simp [State.startWalk]
  · simp [State.startWalk]
  · exact iff_of_false (serving a) (by simp [State.startWalk])

theorem commit_edits {s : State} (page : Agent) (operand : Byte) (idle : s.walking = false) :
    Edits s (s.commit page operand) := by
  unfold State.commit
  split
  · next opened =>
    split
    · exact (finish_edits idle _ _ _ (by simp) _ _).trans (reportControl_edits _ _ _ _)
    · next valid =>
      refine (takeDueLines_edits s).trans ?_
      obtain ⟨_, _, _, _, _, _, _, same⟩ := takeDueLines_eq s
      rw [same]
      exact switchTable_edits page operand idle opened valid
  · exact finish_edits idle _ _ _ (by simp) _ _

/-! ## Walks (R50 to R53, R81 to R83, R117 to R120, R192 to R195) -/

theorem queue_mem_pendingRecords {s : State} {c : Class} {r : EventRecord} (h : r ∈ s.queue c) : r ∈ s.pendingRecords :=
  (mem_pendingRecords s r).mpr ⟨c, h⟩

/-- The record a walk visits next lies in the queue of the position (R50). -/
theorem advance_mem {s : State} {fuel : Nat} {p q : QueuePos} {r : EventRecord} (h : s.advance fuel p = some (q, r)) :
    r ∈ s.ahead q := by
  induction fuel generalizing p with
  | zero => cases h
  | succ fuel ih =>
    unfold State.advance at h
    split at h
    · next rest ahead =>
      cases h
      rw [ahead]
      exact List.mem_cons_self
    · split at h
      · cases h
      · exact ih h

theorem nextVisit_mem {s : State} {p q : QueuePos} {r : EventRecord} (h : s.nextVisit p = some (q, r)) :
    r ∈ s.pendingRecords :=
  queue_mem_pendingRecords (List.mem_of_mem_drop (advance_mem h))

/-- Two walks of the same kind, one perhaps further than the other. -/
inductive SameWalk : Walk → Walk → Prop
  | regroup (p q : QueuePos) : SameWalk (.regroup p) (.regroup q)
  | purge (src : Source) (p q : QueuePos) : SameWalk (.purge src p) (.purge src q)
  | agentReset (a : Agent) : SameWalk (.agentReset a) (.agentReset a)
  | clear (p q : QueuePos) : SameWalk (.clear p) (.clear q)

theorem SameWalk.headInserted (w : Walk) (c : Class) : SameWalk w (w.headInserted c) := by
  cases w <;> constructor

/-- A walk's progress is nothing to UnitConsistent. -/
theorem unit_of_sameWalk {s t : State} {w w' : Walk} (before : s.command.walk = some w) (after : t.command.walk = some w')
    (same : SameWalk w w') (status : t.command.status = s.command.status) (table : t.table = s.table)
    (agents : ∀ a, (t.port a).state = .draining ↔ (s.port a).state = .draining) : UnitConsistent s → UnitConsistent t := by
  refine unit_of_walk status table agents (by rw [before, after]; rfl) ?_ fun a => ?_
  · rw [before, after]; cases same <;> simp
  · rw [before, after]; cases same <;> simp

/-- The walk's position moves. -/
theorem setWalk_edits {s : State} {w w' : Walk} (same : SameWalk w w') (walk : s.command.walk = some w) :
    Edits s (s.setWalk w') :=
  .of_control (.of_ports rfl id (unit_of_sameWalk walk rfl same rfl rfl fun _ => .rfl) fun _ h => ⟨h, rfl, rfl⟩)

theorem Kin.refreshed (r : EventRecord) (e : Entry) : Kin r (r.refreshed e) := by
  unfold EventRecord.refreshed EventRecord.testDeclined
  split <;> split <;> exact ⟨rfl, id⟩

theorem remaining_refreshed (r : EventRecord) (e : Entry) : (r.refreshed e).remaining = r.remaining := by
  unfold EventRecord.refreshed
  split <;> exact remaining_testDeclined _

/-- A step of the regroup walk, after a refresh in place or not. -/
theorem regroupVisit_edits (s : State) (m : WalkMove) :
    ∃ u, (u = s ∨ Refresh s u) ∧ Edits u (s.regroupVisit m) := by
  unfold State.regroupVisit
  split
  · next p walk =>
    split
    · exact ⟨s, .inl rfl, setWalk_edits (.regroup _ _) walk⟩
    · split
      · next q r visit =>
        have mem := nextVisit_mem visit
        unfold State.regroupRecord
        dsimp only
        split
        · split
          · next cls =>
            exact ⟨_, .inr (.mk s r _ mem (.refreshed r _) cls (remaining_refreshed r _)),
              setWalk_edits (.regroup p _) walk⟩
          · refine ⟨s, .inl rfl, ?_⟩
            refine Edits.trans (Edit.regroup s r _ mem (.refreshed r (s.entry r.source)) (remaining_refreshed r _)).edits ?_
            exact Edits.trans (setWalk_edits (.regroup _ _) walk) (.quiet rfl)
        · exact ⟨s, .inl rfl, setWalk_edits (.regroup _ _) walk⟩
      · exact ⟨s, .inl rfl, .refl s⟩
  · exact ⟨s, .inl rfl, .refl s⟩

theorem ports_regroupVisit (s : State) (m : WalkMove) : (s.regroupVisit m).ports = s.ports := by
  unfold State.regroupVisit State.regroupRecord
  dsimp only
  repeat' split
  all_goals rfl

theorem regroupEnd_edits (s : State) : Edits s s.regroupEnd := by
  unfold State.regroupEnd
  split
  · next p walk =>
    split
    · refine .of_control (.of_ports rfl id (fun h => ?_) fun _ h => ⟨h, rfl, rfl⟩)
      obtain ⟨-, -, reset, -⟩ := h
      refine ⟨by simp, by simp, fun a => ?_, fun _ => rfl⟩
      exact iff_of_false (fun h => by simpa [walk] using (reset a).mp h) (by simp)
    · exact .refl s
  · exact .refl s

/-- A walk other than a regroup and an AGENT_RESET begins (R51, R192). -/
theorem startWalk_edits {s : State} (idle : s.walking = false) (page : Agent) (code operand : Byte) (result : Word)
    {w : Walk} (regroup : ∀ p, w ≠ .regroup p) (reset : ∀ a, w ≠ .agentReset a) :
    Edits s (s.startWalk page code operand result w) := by
  refine .of_control (.of_ports rfl id (fun h => ?_) fun _ h => ⟨h, rfl, rfl⟩)
  obtain ⟨session, serving⟩ := h.idle (walk_eq_none idle)
  obtain ⟨-, -, -, frozen⟩ := h
  exact ⟨by simp, by simpa [regroup] using session, fun a => iff_of_false (serving a) (by simp [reset]), frozen⟩

/-- Such a walk ends (R53, R195). -/
theorem endWalk_edits {s : State} {w : Walk} (walk : s.command.walk = some w) (regroup : ∀ p, w ≠ .regroup p)
    (reset : ∀ a, w ≠ .agentReset a) : Edits s s.endWalk := by
  refine .of_control (.of_ports rfl id (fun h => ?_) fun _ h => ⟨h, rfl, rfl⟩)
  obtain ⟨-, session, draining, frozen⟩ := h
  simp only [walk, Option.some.injEq, regroup, reset, exists_false, iff_false] at session draining
  exact ⟨by simp, by simpa using session, fun a => iff_of_false (draining a) (by simp), frozen⟩

theorem purge_edits {s : State} (page : Agent) (operand : Byte) (idle : s.walking = false) :
    Edits s (s.purge page operand) := by
  unfold State.purge
  split
  · exact startWalk_edits idle _ _ _ _ (by simp) (by simp)
  · exact finish_edits idle _ _ _ (by simp) _ _

theorem growGrant_edits (s : State) : Edits s s.growGrant := by
  obtain ⟨_, same⟩ := growGrant_eq s
  rw [same]
  exact .quiet rfl

theorem purgeVisit_edits (s : State) (m : WalkMove) : Edits s (s.purgeVisit m) := by
  unfold State.purgeVisit
  split
  · next src p walk =>
    split
    · exact setWalk_edits (.purge _ _ _) walk
    · split
      · next q r visit =>
        unfold State.purgeRecord
        split
        · have freed : Edits s ((s.removePending r.slot).setWalk (.purge src q)) := by
            refine Edits.trans (Edit.remove s r.slot).edits ?_
            exact setWalk_edits (.purge _ _ _) walk
          dsimp only
          split
          · exact freed.trans ((growGrant_edits _).trans (.quiet rfl))
          · exact freed.trans (.quiet rfl)
        · exact setWalk_edits (.purge _ _ _) walk
      · exact .refl s
  · exact .refl s

theorem purgeEnd_edits (s : State) : Edits s s.purgeEnd := by
  unfold State.purgeEnd
  split
  · next src p walk =>
    split
    · have ended := endWalk_edits walk (by simp) (by simp)
      split
      · exact ended.trans (followUps_edits _ _ (by simp [FollowUp.External]))
      · exact ended
    · exact .refl s
  · exact .refl s

theorem agentReset_edits {s : State} (page : Agent) (operand : Byte) (idle : s.walking = false) :
    Edits s (s.agentReset page operand) := by
  unfold State.agentReset
  split
  · next lt =>
    refine (Edit.undecline s ⟨operand.toNat, lt⟩).edits.trans ?_
    have idle' : (s.undeclineAll ⟨operand.toNat, lt⟩).command.walk = none := walk_eq_none idle
    dsimp only
    generalize s.undeclineAll ⟨operand.toNat, lt⟩ = t at idle' ⊢
    generalize (⟨operand.toNat, lt⟩ : Agent) = a
    have cases {C : Port → Port → Prop}
        (here : C (t.port a) { t.port a with state := .draining, tickDue := false, withdrawn := [] })
        (elsewhere : ∀ q, C q q) (b : Agent) : C (t.port b)
          ((t.setPort a { t.port a with state := .draining, tickDue := false, withdrawn := [] }).port b) := by
      by_cases same : b = a
      · subst same; rw [State.port_setPort_self]; exact here
      · rw [State.port_setPort_ne _ _ same]; exact elsewhere _
    refine .of_control ⟨rfl, rfl, rfl, rfl, rfl, rfl, cases (C := fun q q' => q'.stack = q.stack) rfl fun _ => rfl,
      cases (C := fun q q' => q'.withdrawn.Sublist q.withdrawn) (List.nil_sublist _) fun _ => .refl _,
      cases (C := fun q q' => q'.state = .asleep → q.state = .asleep ∨ q.stack = []) (by simp) fun _ => .inl, id,
      fun h => ?_, fun _ h => ⟨h, rfl, rfl⟩⟩
    obtain ⟨session, serving⟩ := h.idle idle'
    obtain ⟨-, -, -, frozen⟩ := h
    refine ⟨by simp, by simpa using session, fun b => ?_, frozen⟩
    by_cases same : b = a
    · subst same
      exact iff_of_true (congrArg Port.state (State.port_setPort_self t b _)) rfl
    · refine iff_of_false ?_ (by simp [Ne.symm same])
      change ((t.setPort a _).port b).state ≠ .draining
      rw [State.port_setPort_ne t _ same]
      exact serving b
  · exact finish_edits idle _ _ _ (by simp) _ _

theorem resetTake_edits (s : State) : Edits s s.resetTake := by
  unfold State.resetTake
  split
  · next a walk =>
    split
    · next r rest stack =>
      let back : EventRecord := { r with remaining := none, abandoned := true, returns := satFin r.returns }
      let served : Port := { s.port a with stack := rest }
      have taken := handBack_edits s a r back served served ⟨stack, rfl, .inl rfl⟩ (.refl _) ⟨rfl, id⟩ rfl
      exact taken.trans (.quiet rfl)
    · exact .refl s
  · exact .refl s

theorem resetEnd_edits (s : State) : Edits s s.resetEnd := by
  unfold State.resetEnd
  split
  · next a walk =>
    split
    · next empty =>
      have cases {C : Port → Port → Prop} (here : C (s.port a) { s.port a with state := .off }) (elsewhere : ∀ q, C q q)
          (b : Agent) : C (s.port b) ((s.setPort a { s.port a with state := .off }).port b) := by
        by_cases same : b = a
        · subst same; rw [State.port_setPort_self]; exact here
        · rw [State.port_setPort_ne _ _ same]; exact elsewhere _
      refine .of_control ⟨rfl, rfl, rfl, rfl, rfl, rfl, cases (C := fun q q' => q'.stack = q.stack) rfl fun _ => rfl,
        cases (C := fun q q' => q'.withdrawn.Sublist q.withdrawn) (.refl _) fun _ => .refl _,
        cases (C := fun q q' => q'.state = .asleep → q.state = .asleep ∨ q.stack = []) (by simp) fun _ => .inl, id,
        fun h => ?_, fun _ h => ⟨h, rfl, rfl⟩⟩
      obtain ⟨-, session, draining, frozen⟩ := h
      simp only [walk, Option.some.injEq, reduceCtorEq, exists_false, iff_false] at session
      refine ⟨by simp, by simpa using session, fun b => ?_, frozen⟩
      change ((s.setPort a { s.port a with state := .off }).port b).state = .draining ↔ _
      by_cases same : b = a
      · subst same; simp
      · rw [State.port_setPort_ne _ _ same]
        have := draining b
        simpa [walk, Ne.symm same] using this
    · exact .refl s
  · exact .refl s

theorem clear_edits {s : State} (page : Agent) (operand : Byte) (idle : s.walking = false) :
    Edits s (s.clear page operand) := by
  have port (a : Agent) : (s.clear page operand).port a = (s.port a).cleared := by
    simp [State.clear, State.clearTaken, State.startWalk, State.stopLink, State.port]
  refine .of_wiped ⟨rfl, rfl, rfl, rfl, rfl, fun i => ?_, fun a => by rw [port]; rfl, fun a => by rw [port]; rfl, rfl,
    fun h => ?_, fun h frozen => ⟨frozen, rfl, rfl⟩⟩
  · simp [State.clear, State.clearTaken, State.startWalk, State.internal]
  · obtain ⟨session, serving⟩ := h.idle (walk_eq_none idle)
    obtain ⟨-, -, -, closed⟩ := h
    have table : (s.clear page operand).table.session =
        if s.table.session = .opened then .closed else s.table.session := rfl
    have command : (s.clear page operand).command.status = .busy ∧
        (s.clear page operand).command.walk = some (.clear startPos) := ⟨rfl, rfl⟩
    refine ⟨by simp [command], ?_, fun a => ?_, fun frozen => ?_⟩
    · rw [table, command.2]
      split
      · simp
      · simpa using session
    · rw [port, command.2]
      simp [Port.cleared, serving a]
    · rw [table, closed frozen]
      rfl

theorem clearVisit_edits (s : State) (m : WalkMove) : Edits s (s.clearVisit m) := by
  unfold State.clearVisit
  split
  · next p walk =>
    split
    · exact setWalk_edits (.clear _ _) walk
    · split
      · next q r visit =>
        refine Edits.trans (Edit.remove s r.slot).edits ?_
        exact Edits.trans (setWalk_edits (.clear _ _) walk) (.quiet rfl)
      · exact .refl s
  · exact .refl s

theorem clearEnd_edits (s : State) : Edits s s.clearEnd := by
  unfold State.clearEnd
  split
  · next p walk =>
    split
    · exact (endWalk_edits walk (by simp) (by simp)).trans (followUps_edits _ _ allLines_external)
    · exact .refl s
  · exact .refl s

/-! ## POST, LINK_START, LINK_STOP and the write of COMMAND (R28, R149, R150, R187) -/

theorem walk_resolve (s : State) (a : Arrival) : (s.resolve a).1.command = s.command := by
  obtain ⟨_, _, _, _, _, same⟩ := resolve_eq s a
  rw [same]

theorem postCommand_edits {s : State} (page : Agent) (operand : Byte) (idle : s.walking = false) :
    Edits s (State.postCommand page operand s) := by
  unfold State.postCommand
  split
  · split
    · exact finish_edits idle _ _ _ (by simp) _ _
    · refine (resolve_edits s _ (by dsimp only; omega)).trans (finish_edits ?_ _ _ _ (by simp) _ _)
      simpa only [State.walking, walk_resolve] using idle
  · exact finish_edits idle _ _ _ (by simp) _ _

theorem linkStart_edits {s : State} (page : Agent) (operand : Byte) (idle : s.walking = false) :
    Edits s (s.linkStart page operand) := by
  unfold State.linkStart
  split
  · next down => exact (startLink_edits s down).trans (finish_edits (s := s.startLink) idle _ _ _ (by simp) _ _)
  · exact finish_edits idle _ _ _ (by simp) _ _

theorem linkStop_edits {s : State} (page : Agent) (operand : Byte) (idle : s.walking = false) :
    Edits s (s.linkStop page operand) :=
  (stopLink_edits s).trans (finish_edits (s := s.stopLink) idle _ _ _ (by simp) _ _)

theorem writeCommand_edits (s : State) (page : Agent) (code operand : Byte) :
    Edits s (s.writeCommand page code operand) := by
  refine takeCommand_edits s code _ fun idle => ?_
  split
  · exact editBegin_edits page operand idle
  · exact editAbandon_edits page operand idle
  · exact commit_edits page operand idle
  · exact freeze_edits page operand idle
  · exact postCommand_edits page operand idle
  · exact purge_edits page operand idle
  · exact agentReset_edits page operand idle
  · exact clear_edits page operand idle
  · exact linkStart_edits page operand idle
  · exact linkStop_edits page operand idle
  · exact finish_edits idle _ _ _ (by simp) _ _

/-! ## The Timebase (R125 to R128) -/

theorem takeDue_edits (e : DueEvent) (s : State) : Edits s (takeDue e s) := by
  cases e with
  | candidate n => exact takeCandidate_edits s n
  | expiry a => exact takeExpiry_edits s a
  | helloInterval => exact helloExpiry_edits s
  | ackTimer => exact ackExpiry_edits s

/-- The tick beyond the lines (R127). -/
theorem tickBeyondLines_edits (u : State) :
    Edits u
      { u with
        timebase := u.timebase.ticked
        ports := u.ports.map Port.ticked
        link := { u.link with timer := u.link.timer.ticked }
        transmitter := { u.transmitter with timer := u.transmitter.timer.ticked } } := by
  have ticked : Edits u { u with ports := u.ports.map Port.ticked } :=
    (Edit.service u (u.ports.map Port.ticked) fun a => by
      rw [Fin.getElem_fin, Vector.getElem_map]
      exact .ticked _).edits
  refine ticked.trans (LinkChange.edits ?_)
  exact .of_same rfl rfl rfl rfl rfl

theorem deliverTick_edits (s : State) : Edits s s.deliverTick :=
  (setLines_edits s _).trans (tickBeyondLines_edits s.tickLines)

theorem doTick_edits (s : State) : Edits s s.doTick :=
  (inFreeOrder_edits takeDue s _ fun e _ t => takeDue_edits e t).trans (deliverTick_edits _)

theorem clk_edits (s : State) : Edits s s.clk := by
  unfold State.clk
  split
  · exact .refl s
  · split
    · exact doTick_edits s
    · exact .quiet rfl

/-! ## Bus writes (R179 to R181) -/

theorem writeStagingEntry_edits (s : State) (k : Fin 4) (w : Word) : Edits s (s.writeStagingEntry k w) := by
  unfold State.writeStagingEntry
  dsimp only
  split
  · exact .quiet rfl
  · exact reportControl_edits s _ _ _

theorem writeStagingDeadline_edits (s : State) (i : Fin 8) (w : Word) : Edits s (s.writeStagingDeadline i w) := by
  unfold State.writeStagingDeadline
  split
  · exact .quiet rfl
  · exact reportControl_edits s _ _ _

theorem writeLinkReserve_edits (s : State) (w : Word) : Edits s (s.writeLinkReserve w) := by
  unfold State.writeLinkReserve
  dsimp only
  split
  · next fits =>
    rw [Bool.and_eq_true] at fits
    exact (Edit.reserve s _ fits.2).edits
  · exact reportControl_edits s _ _ _

theorem writeLinkDiv_edits (s : State) (w : Word) : Edits s (s.writeLinkDiv w) := by
  unfold State.writeLinkDiv
  dsimp only
  split
  · exact .quiet rfl
  · exact .refl s

theorem writeLinkTimeout_edits (s : State) (w : Word) : Edits s (s.writeLinkTimeout w) := by
  unfold State.writeLinkTimeout
  split
  · exact .refl s
  · exact .quiet rfl

theorem writeLinkRetries_edits (s : State) (w : Word) : Edits s (s.writeLinkRetries w) := by
  unfold State.writeLinkRetries
  dsimp only
  split
  · exact .quiet rfl
  · exact .refl s

theorem writeHold_edits (s : State) (k : Fin 4) (w : Word) : Edits s (s.writeHold k w) := .quiet rfl

theorem clearFaults_edits (s : State) (w : Word) : Edits s (s.clearFaults w) := .quiet rfl

theorem writePrescale_edits (s : State) (w : Word) : Edits s (s.writePrescale w) := .quiet rfl

theorem writeSelector_edits (s : State) (addr : Nat) (w : Word) : Edits s (s.writeSelector addr w) := by
  unfold State.writeSelector
  split <;> exact .quiet rfl

theorem writePage_edits (s : State) (a : Agent) (off : Nat) (w : Word) : Edits s (s.writePage a off w) := by
  unfold State.writePage
  split
  · exact endService_edits s a _ _
  · exact agentCtrl_edits s a _
  · exact writeThreshold_edits s a w
  · exact writeView_edits s a w
  · exact writeCommand_edits s a _ _
  · exact .refl s

theorem writeCommon_edits (s : State) (addr : Nat) (w : Word) : Edits s (s.writeCommon addr w) := by
  unfold State.writeCommon
  split
  iterate 4 exact writeStagingEntry_edits s _ w
  iterate 8 exact writeStagingDeadline_edits s _ w
  iterate 4 exact writeHold_edits s _ w
  · exact clearFaults_edits s w
  · exact writeLinkReserve_edits s w
  · exact writePrescale_edits s w
  · exact writeLinkDiv_edits s w
  · exact writeLinkTimeout_edits s w
  · exact writeLinkRetries_edits s w
  · exact writeSelector_edits s addr w

theorem busWrite_edits (s : State) (address : Byte) (w : Word) : Edits s (s.busWrite address w) := by
  unfold State.busWrite
  split
  · exact writePage_edits s _ _ w
  · exact writeCommon_edits s _ w

theorem readTickLo_edits (s : State) : Edits s s.readTickLo := .quiet rfl

/-! ## Every command -/

theorem whileRunning_edits {s t u : State} (h : (.next (if s.inReset then s else u) : Result) = .next t)
    (edits : Edits s u) : Edits s t := by
  cases h
  split
  · exact .refl s
  · exact edits

/-- A read with a side effect (R62, R128): while RESET_N is low it returns 0. -/
theorem readWithEffect_edits {s t u : State}
    (h : (.next (if s.inReset then { s with dataOut := 0 } else u) : Result) = .next t) (edits : Edits s u) :
    Edits s t := by
  cases h
  split
  · exact .quiet rfl
  · exact edits

/-- Every command but a power-on reset and a regroup visit is a sequence of edits. -/
theorem exec_edits {c : Instr} {s t : State} (h : exec c s = .next t) (noReset : c ≠ .powerOnReset)
    (noVisit : ∀ m, c ≠ .regroupVisit m) : Edits s t := by
  cases c with
  | powerOnReset => exact absurd rfl noReset
  | tick => exact whileRunning_edits h (doTick_edits s)
  | pinChange line level => cases h; exact pinTo_edits s line level
  | candidateStable line => exact whileRunning_edits h (takeCandidate_edits s line)
  | claim agent => exact readWithEffect_edits h (claim_edits s agent)
  | complete agent source seq => exact whileRunning_edits h (endService_edits s agent _ _)
  | release agent source seq => exact whileRunning_edits h (endService_edits s agent _ _)
  | enable agent => exact whileRunning_edits h (agentCtrl_edits s agent 1)
  | disable agent => exact whileRunning_edits h (agentCtrl_edits s agent 2)
  | sleep agent => exact whileRunning_edits h (agentCtrl_edits s agent 3)
  | badRequest agent code => exact whileRunning_edits h (agentCtrl_edits s agent code)
  | thresholdWrite agent value => exact whileRunning_edits h (writeThreshold_edits s agent value)
  | viewLevelWrite agent value => exact whileRunning_edits h (writeView_edits s agent value)
  | tickLoRead page => exact readWithEffect_edits h (readTickLo_edits s)
  | holdWrite index value => exact whileRunning_edits h (writeHold_edits s index value)
  | faultWrite value => exact whileRunning_edits h (clearFaults_edits s value)
  | prescaleWrite value => exact whileRunning_edits h (writePrescale_edits s value)
  | linkReserveWrite value => exact whileRunning_edits h (writeLinkReserve_edits s value)
  | linkDivWrite value => exact whileRunning_edits h (writeLinkDiv_edits s value)
  | linkTimeoutWrite value => exact whileRunning_edits h (writeLinkTimeout_edits s value)
  | linkRetriesWrite value => exact whileRunning_edits h (writeLinkRetries_edits s value)
  | stagingEntryWrite index value => exact whileRunning_edits h (writeStagingEntry_edits s index value)
  | stagingDeadlineWrite index value => exact whileRunning_edits h (writeStagingDeadline_edits s index value)
  | registerWrite address value => exact whileRunning_edits h (busWrite_edits s address value)
  | editBegin page operand => exact whileRunning_edits h (takeCommand_edits s _ _ (editBegin_edits page operand))
  | editAbandon page operand => exact whileRunning_edits h (takeCommand_edits s _ _ (editAbandon_edits page operand))
  | commit page operand => exact whileRunning_edits h (takeCommand_edits s _ _ (commit_edits page operand))
  | regroupVisit move => exact absurd rfl (noVisit move)
  | regroupEnd => exact whileRunning_edits h (regroupEnd_edits s)
  | freeze page operand => exact whileRunning_edits h (takeCommand_edits s _ _ (freeze_edits page operand))
  | post page operand => exact whileRunning_edits h (takeCommand_edits s _ _ (postCommand_edits page operand))
  | purge page operand => exact whileRunning_edits h (takeCommand_edits s _ _ (purge_edits page operand))
  | purgeVisit move => exact whileRunning_edits h (purgeVisit_edits s move)
  | purgeEnd => exact whileRunning_edits h (purgeEnd_edits s)
  | agentReset page operand => exact whileRunning_edits h (takeCommand_edits s _ _ (agentReset_edits page operand))
  | agentResetTake => exact whileRunning_edits h (resetTake_edits s)
  | agentResetEnd => exact whileRunning_edits h (resetEnd_edits s)
  | clear page operand => exact whileRunning_edits h (takeCommand_edits s _ _ (clear_edits page operand))
  | clearVisit move => exact whileRunning_edits h (clearVisit_edits s move)
  | clearEnd => exact whileRunning_edits h (clearEnd_edits s)
  | linkStart page operand => exact whileRunning_edits h (takeCommand_edits s _ _ (linkStart_edits page operand))
  | linkStop page operand => exact whileRunning_edits h (takeCommand_edits s _ _ (linkStop_edits page operand))
  | badCommand page code operand => exact whileRunning_edits h (writeCommand_edits s page code operand)
  | deadlineExpiry agent => exact whileRunning_edits h (takeExpiry_edits s agent)
  | helloIntervalExpiry => exact whileRunning_edits h (helloExpiry_edits s)
  | ackTimerExpiry => exact whileRunning_edits h (ackExpiry_edits s)
  | frameDiscarded damage => exact whileRunning_edits h (damage_edits s damage)
  | helloTaken session grant => exact whileRunning_edits h (receiveFrame_edits s _)
  | helloAckTaken session grant => exact whileRunning_edits h (receiveFrame_edits s _)
  | evtTaken seq channel count payload => exact whileRunning_edits h (receiveFrame_edits s _)
  | ackTaken nextExpected grant => exact whileRunning_edits h (receiveFrame_edits s _)
  | nakTaken nextExpected grant => exact whileRunning_edits h (receiveFrame_edits s _)
  | crdTaken grant => exact whileRunning_edits h (receiveFrame_edits s _)
  | helloSend => exact whileRunning_edits h (sendHello_edits s)
  | helloSendEnd => exact whileRunning_edits h (endHello_edits s)
  | helloAckSend => exact whileRunning_edits h (sendHelloAck_edits s)
  | firstSend => exact whileRunning_edits h (sendFirst_edits s)
  | retransmission => exact whileRunning_edits h (resend_edits s)
  | evtSendEnd => exact whileRunning_edits h (endEvt_edits s)
  | ackSend => exact whileRunning_edits h (sendAck_edits s)
  | nakSend => exact whileRunning_edits h (sendNak_edits s)
  | crdSend => exact whileRunning_edits h (sendCrd_edits s)
  | byteReceived b => exact whileRunning_edits h (receiveByte_edits s b)
  | resetRelease => cases h; exact releaseReset_edits s

/-- The cases of a step: a power-on reset, a regroup visit, or a sequence of edits. P is kept by every edit; then what
follows from P holds after the step, given that it holds after a power-on reset and after a regroup visit. A safety
property reads neither the queue of commands nor the registers outside the core, so it holds after a power-on reset when
it holds of `State.reset`. -/
theorem step_reaches {P Q : State → Prop} (dequeue : ∀ s rest, P s → P { s with pending := rest })
    (edit : ∀ s t, Edit s t → P s → P t) (imp : ∀ s, P s → Q s) (reset : ∀ s : State, Q s.powerOnReset)
    (visit : ∀ s m, P s → Q (s.regroupVisit m)) {s t : State} (h : step s = .next t) (start : P s) : Q t := by
  unfold step at h
  split at h
  · cases h
    exact imp _ ((clk_edits s).keeps edit start)
  · next c rest _ =>
    have ready := dequeue s rest start
    by_cases power : c = .powerOnReset
    · subst power
      cases h
      exact reset _
    · by_cases regroup : ∃ m, c = .regroupVisit m
      · obtain ⟨m, rfl⟩ := regroup
        cases h
        split
        · exact imp _ ready
        · exact visit _ m ready
      · exact imp _ ((exec_edits h power fun m eq => regroup ⟨m, eq⟩).keeps edit ready)

theorem powerOnReset_edits (s : State) : Edits { State.reset with pending := s.pending } s.powerOnReset := .quiet rfl

/-- An invariant: it holds of `State.reset`, and every edit and every refresh keeps it. -/
theorem step_keeps {P : State → Prop} (dequeue : ∀ s rest, P s → P { s with pending := rest }) (reset : P State.reset)
    (edit : ∀ s t, Edit s t → P s → P t) (refresh : ∀ s t, Refresh s t → P s → P t) {s t : State}
    (h : step s = .next t) (start : P s) : P t := by
  refine step_reaches dequeue edit (fun _ => id) (fun u => ?_) (fun u m hu => ?_) h start
  · exact (powerOnReset_edits u).keeps edit (dequeue _ _ reset)
  · obtain ⟨v, first, rest⟩ := regroupVisit_edits u m
    refine rest.keeps edit ?_
    obtain rfl | refreshed := first
    · exact hu
    · exact refresh _ _ refreshed hu

end Sys2Proof.Machine
end

section
/-!
PROOF. The safety properties of the Record Pool and of the Command Unit (O52, O53, O57 to O59): they hold of
`State.reset`, and every edit keeps them.
-/
namespace Sys2Proof.Machine

/-! ## State.reset holds no record (R7, R40, R54, R158) -/

@[simp] theorem queue_reset (c : Class) : State.reset.queue c = [] := Vector.getElem_replicate c.isLt

@[simp] theorem port_reset (a : Agent) :
    State.reset.port a =
      { state := .off, threshold := 0, stack := [], tickDue := false, view := .top, withdrawn := []
        lastResult := .idle } :=
  Vector.getElem_replicate a.isLt

@[simp] theorem internal_reset (i : Fin 4) :
    State.reset.internal i = { raisedAgain := false, latest0 := 0, latest1 := 0 } :=
  Vector.getElem_replicate i.isLt

@[simp] theorem pendingRecords_reset : State.reset.pendingRecords = [] := by simp [State.pendingRecords]

@[simp] theorem stackedRecords_reset : State.reset.stackedRecords = [] := by simp [State.stackedRecords]

@[simp] theorem forwardRecords_reset : State.reset.forwardRecords = [] := rfl

@[simp] theorem allocated_reset : State.reset.allocated = [] := by simp [State.allocated]

@[simp] theorem outstanding_reset (src : Source) : State.reset.outstanding src = 0 := by simp [State.outstanding]

@[simp] theorem heldCount_reset (p : Partition) : State.reset.heldCount p = 0 := by simp [State.heldCount]

theorem entry_reset (src : Source) : State.reset.entry src = Entry.default src := Vector.getElem_ofFn src.isLt

/-- R107: the entries of lines and posted sources are disabled; those of the internal sources are valid. -/
theorem activeValid_reset : ActiveValid State.reset := by
  intro src
  rw [entry_reset]
  revert src
  decide +kernel

theorem forwardWindow_reset : ForwardWindow State.reset :=
  (forwardWindow_iff _).mpr ⟨0, windowAt_zero (Nat.zero_le 16) (by simp [State.reset]) rfl⟩

/-- Settles O52: `State.reset` holds no record, its entries are the default ones, and no session or walk is open. -/
theorem resetMeetsTheInvariants : Obligations.ResetMeetsTheInvariants := by
  unfold Obligations.ResetMeetsTheInvariants
  refine ⟨?_, ?_, ?_, ?_, forwardWindow_reset, ?_, ?_, activeValid_reset, ?_, ?_, ?_, ?_, ?_, ?_, ?_, ?_, ?_⟩
  · simp [SlotsDistinct]
  · simp [QueuesByClass]
  · simp [StacksOrdered]
  · simp [WithdrawnBounded]
  · have walk : State.reset.command.walk = none := rfl
    exact ⟨by decide, by simp [State.reset], fun a => by simp [walk], by decide⟩
  · exact ⟨by decide, by simp, by simp, by simp⟩
  · simp [OutstandingBounded]
  · simp [AsleepEmpty]
  · simp [RemainingInService]
  · simp [CountsPositive]
  · simp [PairsDistinct]
  · simp [WithdrawnOffStack]
  · simp [ForwardLocal]
  · simp [StackPermitted]
  · simp [RaisedInService]

/-! ## Slots and pairs stay distinct (R1, R7, R10, R14; O53, O59) -/

/-- R12, R105: max outstanding has four bits. -/
theorem maxOutstanding_lt (s : State) (src : Source) : s.maxOutstanding src < 256 := by
  unfold State.maxOutstanding
  split
  · decide
  · exact Nat.lt_of_lt_of_le (BitVec.isLt _) (by decide)

/-- An admitted arrival takes a slot that no record has. -/
theorem Admitted.slot_fresh {s : State} {a : Arrival} {k : Slot} (h : Admitted s a k) : k ∉ s.keys.map Prod.snd := by
  rw [State.keys, List.map_map]
  simpa [EventRecord.key] using h.free

/-- An admitted arrival takes a pair that no record has. -/
theorem Admitted.pair_fresh {s : State} {a : Arrival} {k : Slot} (h : Admitted s a k) :
    (⟨a.source, s.freshSeq a.source⟩ : Pair) ∉ s.keys.map Prod.fst := by
  rw [State.keys, List.map_map]
  have fresh := freshSeq_fresh (Nat.lt_trans h.outstanding (maxOutstanding_lt s a.source))
  simpa [EventRecord.key, EventRecord.pair, Pair.mk.injEq] using fresh

theorem slotsDistinct_of_edit {s t : State} (h : Edit s t) (distinct : SlotsDistinct s) : SlotsDistinct t := by
  rw [slotsDistinct_iff] at distinct ⊢
  cases h.keyChange with
  | shrink keys => exact (keys.map _).nodup distinct
  | grow a k admitted keys =>
    exact (keys.map Prod.snd).nodup_iff.mpr (List.nodup_cons.mpr ⟨admitted.slot_fresh, distinct⟩)
  | resize keys => rwa [keys]

theorem pairsDistinct_of_edit {s t : State} (h : Edit s t) (distinct : PairsDistinct s) : PairsDistinct t := by
  rw [pairsDistinct_iff] at distinct ⊢
  cases h.keyChange with
  | shrink keys => exact (keys.map _).nodup distinct
  | grow a k admitted keys =>
    exact (keys.map Prod.fst).nodup_iff.mpr (List.nodup_cons.mpr ⟨admitted.pair_fresh, distinct⟩)
  | resize keys => rwa [keys]

theorem slotsDistinct_of_refresh {s t : State} (h : Refresh s t) (distinct : SlotsDistinct s) : SlotsDistinct t := by
  rw [slotsDistinct_iff, h.keys distinct, ← slotsDistinct_iff]
  exact distinct

/-- An invariant that needs the slots distinct. -/
theorem step_keeps_of_slots {P : State → Prop} (dequeue : ∀ s rest, P s → P { s with pending := rest })
    (reset : P State.reset) (edit : ∀ s t, Edit s t → SlotsDistinct s → P s → P t)
    (refresh : ∀ s t, Refresh s t → SlotsDistinct s → P s → P t) {s t : State} (h : step s = .next t)
    (distinct : SlotsDistinct s) (start : P s) : SlotsDistinct t ∧ P t := by
  obtain ⟨distinctReset, -⟩ := resetMeetsTheInvariants
  exact step_keeps (P := fun s => SlotsDistinct s ∧ P s) (fun s rest ⟨distinct, hs⟩ => ⟨distinct, dequeue s rest hs⟩)
    ⟨distinctReset, reset⟩
    (fun s t e ⟨distinct, hs⟩ => ⟨slotsDistinct_of_edit e distinct, edit s t e distinct hs⟩)
    (fun s t e ⟨distinct, hs⟩ => ⟨slotsDistinct_of_refresh e distinct, refresh s t e distinct hs⟩) h ⟨distinct, start⟩

/-- Settles O53: by the keys after each edit. -/
theorem stepKeepsSlotsDistinct : Obligations.StepKeepsSlotsDistinct := by
  unfold Obligations.StepKeepsSlotsDistinct
  intro s t distinct h
  exact (step_keeps_of_slots (P := fun _ => True) (fun _ _ => id) trivial (fun _ _ _ _ => id) (fun _ _ _ _ => id) h
    distinct trivial).1

/-- Settles O59: a new record's number is a fresh one, since its source has fewer records than there are numbers. -/
theorem stepKeepsPairsDistinct : Obligations.StepKeepsPairsDistinct := by
  unfold Obligations.StepKeepsPairsDistinct
  intro s t slots pairs h
  refine (step_keeps_of_slots (fun _ _ => id) ?_ (fun _ _ e _ => pairsDistinct_of_edit e) (fun u v e distinct hu => ?_) h
    slots pairs).2
  · simp [PairsDistinct]
  · rw [pairsDistinct_iff, e.keys distinct, ← pairsDistinct_iff]
    exact hu

/-! ## The counts of records (R9, R12, R13; O58) -/

theorem outstanding_congr {s t : State} (h : t.keys = s.keys) (src : Source) : t.outstanding src = s.outstanding src := by
  rw [outstanding_eq, outstanding_eq, h]

theorem heldCount_congr {s t : State} (h : t.keys = s.keys) (p : Partition) : t.heldCount p = s.heldCount p := by
  rw [heldCount_eq, heldCount_eq, h]

theorem outstanding_le_of_within {s t : State} (h : Within t.keys s.keys) (src : Source) :
    t.outstanding src ≤ s.outstanding src := by
  rw [outstanding_eq, outstanding_eq]
  exact h.countP_le _

theorem heldCount_le_of_within {s t : State} (h : Within t.keys s.keys) (p : Partition) :
    t.heldCount p ≤ s.heldCount p := by
  rw [heldCount_eq, heldCount_eq]
  exact h.countP_le _

theorem outstanding_of_grow {s t : State} {a : Pair} {k : Slot} (h : t.keys.Perm ((a, k) :: s.keys)) (src : Source) :
    t.outstanding src = s.outstanding src + if a.source = src then 1 else 0 := by
  rw [outstanding_eq, outstanding_eq, h.countP_eq, List.countP_cons]
  simp

theorem heldCount_of_grow {s t : State} {a : Pair} {k : Slot} (h : t.keys.Perm ((a, k) :: s.keys)) (p : Partition) :
    t.heldCount p = s.heldCount p + if partitionOf a.source = p then 1 else 0 := by
  rw [heldCount_eq, heldCount_eq, h.countP_eq, List.countP_cons]
  simp

/-- R9: the internal sources are the third partition. -/
theorem partitionOf_internal {src : Source} (h : ¬src.val < 60) : partitionOf src = .internal := by
  unfold partitionOf
  rw [if_neg (by omega), if_neg h]

/-- R10: an admitted raising of an internal source makes its only record. -/
theorem Admitted.outstanding_internal {s : State} {a : Arrival} {k : Slot} (h : Admitted s a k) {i : Fin 4}
    (source : a.source = internalSource i) : s.outstanding (internalSource i) = 0 := by
  have few := h.outstanding
  rw [source, maxOutstanding_internalSource] at few
  omega

theorem Admitted.heldCount_lt {s : State} {a : Arrival} {k : Slot} (h : Admitted s a k) {p : Partition}
    (partition : partitionOf a.source = p) (shared : p ≠ .internal) : s.heldCount p < s.partitionSize p := by
  subst partition
  exact h.room (Decidable.byContradiction fun high => shared (partitionOf_internal high))

theorem partitionsBounded_congr {s t : State} (keys : t.keys = s.keys) (reserve : KeepsReserve s t)
    (h : PartitionsBounded s) : PartitionsBounded t := by
  unfold PartitionsBounded
  simp only [heldCount_congr keys, outstanding_congr keys, show t.pool.linkReserve = s.pool.linkReserve from reserve]
  exact h

theorem partitionsBounded_of_edit {s t : State} (e : Edit s t) (h : PartitionsBounded s) : PartitionsBounded t := by
  obtain ⟨limit, general, link, internal⟩ := h
  cases e.keyChange with
  | shrink keys reserve =>
    unfold PartitionsBounded
    rw [show t.pool.linkReserve = s.pool.linkReserve from reserve]
    exact ⟨limit, Nat.le_trans (heldCount_le_of_within keys _) general, Nat.le_trans (heldCount_le_of_within keys _) link,
      fun i => Nat.le_trans (outstanding_le_of_within keys _) (internal i)⟩
  | grow a k admitted keys reserve =>
    unfold PartitionsBounded
    rw [show t.pool.linkReserve = s.pool.linkReserve from reserve]
    refine ⟨limit, ?_, ?_, fun i => ?_⟩
    · rw [heldCount_of_grow keys]
      split
      · next partition => exact admitted.heldCount_lt partition (by simp)
      · exact general
    · rw [heldCount_of_grow keys]
      split
      · next partition => exact admitted.heldCount_lt partition (by simp)
      · exact link
    · rw [outstanding_of_grow keys]
      split
      · next source =>
        have none := admitted.outstanding_internal source
        omega
      · exact internal i
  | resize keys fits =>
    simp only [State.reserveFits, Bool.and_eq_true, decide_eq_true_eq] at fits
    obtain ⟨⟨limit, link⟩, general⟩ := fits
    unfold PartitionsBounded
    simp only [heldCount_congr keys, outstanding_congr keys]
    exact ⟨limit, general, link, internal⟩

/-! ### R12, R113 -/

/-- Only a COMMIT switch, which validates the staging table, changes the active entries. -/
theorem Edit.active {s t : State} (e : Edit s t) : ActiveValid s → ActiveValid t := by
  cases e with
  | control h => exact h.valid
  | link h =>
    have core := h.core
    simp only [State.core, Prod.mk.injEq] at core
    obtain ⟨-, -, -, -, -, -, -, active, -⟩ := core
    simp only [ActiveValid, State.entry, active]
    exact id
  | wipe h =>
    simp only [ActiveValid, State.entry, h.active]
    exact id
  | _ => exact id

/-- R105, R113: a valid enabled entry has a max outstanding of at most 8. -/
theorem maxOutstanding_le {s : State} (valid : ActiveValid s) {src : Source} (enabled : (s.entry src).enable = true) :
    s.maxOutstanding src ≤ 8 := by
  unfold State.maxOutstanding
  split
  · decide
  · have legal := valid src
    simp only [Entry.invalid, enabled, Bool.true_and, Bool.not_eq_false', Entry.legal, Bool.and_eq_true,
      decide_eq_true_eq] at legal
    obtain ⟨⟨⟨⟨⟨-, -, few⟩, -⟩, -⟩, -⟩, -⟩ := legal
    exact few

theorem outstandingBounded_congr {s t : State} (keys : t.keys = s.keys) (h : OutstandingBounded s) :
    OutstandingBounded t := fun src => outstanding_congr keys src ▸ h src

theorem outstandingBounded_of_edit {s t : State} (e : Edit s t) (valid : ActiveValid s) (h : OutstandingBounded s) :
    OutstandingBounded t := by
  intro src
  cases e.keyChange with
  | shrink keys => exact Nat.le_trans (outstanding_le_of_within keys src) (h src)
  | grow a k admitted keys =>
    rw [outstanding_of_grow keys]
    split
    · next source =>
      subst source
      have few := admitted.outstanding
      have limit := maxOutstanding_le valid admitted.enabled
      dsimp only
      omega
    · exact h src
  | resize keys => exact outstandingBounded_congr keys h src

/-- A refresh changes neither the active table nor LINK_RESERVE. -/
theorem Refresh.unchanged {s t : State} (e : Refresh s t) :
    t.table = s.table ∧ t.pool = s.pool ∧ t.ports = s.ports ∧ t.transmitter = s.transmitter ∧ t.link = s.link ∧
      t.command = s.command ∧ t.pending = s.pending := by
  obtain ⟨r, r', mem, kin⟩ := e
  exact ⟨rfl, rfl, rfl, rfl, rfl, rfl, rfl⟩

theorem Refresh.active {s t : State} (e : Refresh s t) (valid : ActiveValid s) : ActiveValid t := by
  obtain ⟨table, -⟩ := e.unchanged
  simpa only [ActiveValid, State.entry, table] using valid

/-- Settles O58: a new record passed the tests of R29 and R35, LINK_RESERVE takes a value only when it fits, and every
other edit adds no record. -/
theorem stepKeepsCounts : Obligations.StepKeepsCounts := by
  unfold Obligations.StepKeepsCounts
  obtain ⟨-, -, -, -, -, -, partitions, valid, outstanding, -⟩ := resetMeetsTheInvariants
  refine ⟨fun s t slots start h => ?_, fun s t slots active start h => ?_⟩
  · refine (step_keeps_of_slots (fun _ _ => id) partitions (fun _ _ e _ => partitionsBounded_of_edit e)
      (fun u v e distinct => partitionsBounded_congr (e.keys distinct) ?_) h slots start).2
    obtain ⟨-, pool, -⟩ := e.unchanged
    exact congrArg Pool.linkReserve pool
  · exact (step_keeps_of_slots (P := fun s => ActiveValid s ∧ OutstandingBounded s) (fun _ _ => id) ⟨valid, outstanding⟩
      (fun _ _ e _ ⟨active, bounded⟩ => ⟨e.active active, outstandingBounded_of_edit e active bounded⟩)
      (fun _ _ e distinct ⟨active, bounded⟩ => ⟨e.active active, outstandingBounded_congr (e.keys distinct) bounded⟩) h
      slots ⟨active, start⟩).2

/-! ## Status, session, agent states and frozen flag (R81, R83, R115, R120, R123, R186; O57) -/

/-- What UnitConsistent reads is untouched. -/
theorem unit_congr {s t : State} (h : UnitConsistent s) (status : t.command.status = s.command.status)
    (walk : t.command.walk = s.command.walk) (session : t.table.session = s.table.session)
    (frozen : t.table.frozen = s.table.frozen) (agents : ∀ a, (t.port a).state = (s.port a).state) :
    UnitConsistent t := by
  simpa only [UnitConsistent, status, walk, session, frozen, agents] using h

theorem state_setPort {s : State} {a : Agent} {p : Port} (same : p.state = (s.port a).state) (b : Agent) :
    ((s.setPort a p).port b).state = (s.port b).state := by
  by_cases here : b = a
  · subst here
    rw [State.port_setPort_self, same]
  · rw [State.port_setPort_ne s p here]

/-- A head insertion moves at most the walk's position (R50). -/
theorem unit_insertHead {s : State} (h : UnitConsistent s) (r : EventRecord) : UnitConsistent (s.insertHead r) := by
  cases walk : s.command.walk with
  | none =>
    refine unit_congr h rfl ?_ rfl rfl fun _ => rfl
    simp [State.insertHead, walk]
  | some w =>
    refine unit_of_sameWalk walk ?_ (.headInserted w r.cls) rfl rfl (fun _ => .rfl) h
    simp [State.insertHead, walk]

theorem Edit.unit {s t : State} (e : Edit s t) (h : UnitConsistent s) : UnitConsistent t := by
  cases e with
  | control c => exact c.unit h
  | wipe c => exact c.unit h
  | link c =>
    have core := c.core
    simp only [State.core, Prod.mk.injEq] at core
    obtain ⟨-, -, ports, -, -, status, walk, -, -, session, frozen, -⟩ := core
    exact unit_congr h status walk session frozen fun a => congrArg (fun ps : Vector Port 4 => ps[a].state) ports
  | claim a r p d chosen stack time withdrawn state =>
    exact unit_congr h rfl rfl rfl rfl (state_setPort (s := s.removePending r.slot) state)
  | free a r p popped => exact unit_congr h rfl rfl rfl rfl (state_setPort popped.state)
  | handBack a r r' p popped =>
    exact unit_insertHead (unit_congr (t := s.setPort a p) h rfl rfl rfl rfl (state_setPort popped.state)) r'
  | service ps retopped => exact unit_congr h rfl rfl rfl rfl fun a => (retopped a).state
  | undecline a => exact unit_congr h rfl rfl rfl rfl fun b => by rw [port_undeclineAll]
  | _ => exact unit_congr h rfl rfl rfl rfl fun _ => rfl

theorem Refresh.unit {s t : State} (e : Refresh s t) (h : UnitConsistent s) : UnitConsistent t := by
  obtain ⟨r, r', mem, kin⟩ := e
  exact unit_congr h rfl rfl rfl rfl fun _ => rfl

/-- Settles O57: the starts and ends of walks and sessions keep it, and the other edits touch none of what it reads but a
walk's position. -/
theorem stepKeepsUnitConsistent : Obligations.StepKeepsUnitConsistent := by
  unfold Obligations.StepKeepsUnitConsistent
  intro s t start h
  obtain ⟨-, -, -, -, -, unit, -⟩ := resetMeetsTheInvariants
  exact step_keeps (fun _ _ => id) unit (fun _ _ => Edit.unit) (fun _ _ => Refresh.unit) h start

end Sys2Proof.Machine
end

section
/-!
PROOF. The safety properties of the class queues and of the agent ports (O54, O55).
-/
namespace Sys2Proof.Machine

/-! ## Every pending record lies in the queue of its class (R39; O54) -/

theorem queuesByClass_congr {s t : State} (queues : t.dispatcher.queues = s.dispatcher.queues) (h : QueuesByClass s) :
    QueuesByClass t := by
  simpa only [QueuesByClass, State.queue, queues] using h

theorem queuesByClass_insertTail {s : State} (r : EventRecord) (h : QueuesByClass s) : QueuesByClass (s.insertTail r) := by
  intro c x mem
  rw [queue_insertTail] at mem
  split at mem
  · next here =>
    obtain old | rfl := List.mem_append.mp mem |>.imp_right List.mem_singleton.mp
    · rw [h _ x old, here]
    · exact here.symm
  · exact h c x mem

theorem queuesByClass_insertHead {s : State} (r : EventRecord) (h : QueuesByClass s) : QueuesByClass (s.insertHead r) := by
  intro c x mem
  rw [queue_insertHead] at mem
  split at mem
  · next here =>
    obtain rfl | old := List.mem_cons.mp mem
    · exact here.symm
    · rw [h _ x old, here]
  · exact h c x mem

theorem queuesByClass_removePending {s : State} (k : Slot) (h : QueuesByClass s) : QueuesByClass (s.removePending k) := by
  intro c x mem
  rw [queue_removePending] at mem
  exact h c x (List.mem_filter.mp mem).1

/-- Where the records that change keep their class. -/
theorem queuesByClass_changePending {s : State} {k : Slot} {f : EventRecord → EventRecord}
    (cls : ∀ r ∈ s.pendingRecords, r.slot = k → (f r).cls = r.cls) (h : QueuesByClass s) :
    QueuesByClass (s.changePending k f) := by
  intro c x mem
  rw [queue_changePending] at mem
  obtain ⟨r, old, rfl⟩ := List.mem_map.mp mem
  have here := h c r old
  split
  · next slot => rw [cls r (queue_mem_pendingRecords old) slot, here]
  · exact here

theorem queuesByClass_undeclineAll {s : State} (a : Agent) (h : QueuesByClass s) : QueuesByClass (s.undeclineAll a) := by
  intro c x mem
  rw [queue_undeclineAll] at mem
  obtain ⟨r, old, rfl⟩ := List.mem_map.mp mem
  exact h c r old

theorem queuesByClass_of_edit {s t : State} (e : Edit s t) (h : QueuesByClass s) : QueuesByClass t := by
  cases e with
  | control c => exact queuesByClass_congr c.queues h
  | allocate a k retarget => exact queuesByClass_insertTail (s := s.countAllocation _) _ h
  | merge k f kin cls => exact queuesByClass_changePending (fun r _ _ => cls r) h
  | claim a r p => exact queuesByClass_congr (s := s.removePending r.slot) rfl (queuesByClass_removePending r.slot h)
  | handBack a r r' p => exact queuesByClass_insertHead (s := s.setPort a p) r' h
  | undecline a => exact queuesByClass_undeclineAll a h
  | link c =>
    have core := c.core
    simp only [State.core, Prod.mk.injEq] at core
    exact queuesByClass_congr core.2.1 h
  | divert f rest r' =>
    exact queuesByClass_insertTail (s := s.setTransmitter { s.transmitter with queue := rest }) r' h
  | remove k => exact queuesByClass_removePending k h
  | regroup r r' => exact queuesByClass_insertTail r' (queuesByClass_removePending r.slot h)
  | wipe c => exact queuesByClass_congr c.queues h
  | _ => exact queuesByClass_congr rfl h

theorem queuesByClass_of_refresh {s t : State} (e : Refresh s t) (distinct : SlotsDistinct s) (h : QueuesByClass s) :
    QueuesByClass t := by
  obtain ⟨r, r', mem, kin, cls⟩ := e
  refine queuesByClass_changePending (fun x hx slot => ?_) h
  have same : x = r := eq_of_slot distinct ((mem_allocated s x).mpr (.inl hx)) ((mem_allocated s r).mpr (.inl mem)) slot
  rw [cls, same]

/-- Settles O54: every insertion is into the queue of the record's class, and what changes in place keeps its class. -/
theorem stepKeepsQueuesByClass : Obligations.StepKeepsQueuesByClass := by
  unfold Obligations.StepKeepsQueuesByClass
  intro s t slots start h
  obtain ⟨-, reset, -⟩ := resetMeetsTheInvariants
  exact (step_keeps_of_slots (fun _ _ => id) reset (fun _ _ e _ => queuesByClass_of_edit e)
    (fun _ _ => queuesByClass_of_refresh) h slots start).2

/-! ## What an edit does to each port (R54, R65, R66, R71) -/

/-- What the stack's rules read of a record on it. -/
def EventRecord.standing (r : EventRecord) : Pair × Class × BitVec 4 := (r.pair, r.cls, r.mayGoTo)

/-- What the stack's rules read of a port's stack, top first. -/
def Port.standings (p : Port) : List (Pair × Class × BitVec 4) := p.stack.map EventRecord.standing

/-- An edit changes a port in two ways: the chosen record is claimed; or records leave the stack, pairs leave the withdrawn
list, and perhaps the pair of the record that left enters it. -/
inductive PortChange (s : State) (a : Agent) (p : Port) : Prop
  | claimed (r : EventRecord) (chosen : s.selection a = some r)
      (stack : p.standings = r.standing :: (s.port a).standings)
      (withdrawn : p.withdrawn = (s.port a).withdrawn.filter (· != r.pair)) (awake : p.state ≠ .asleep)
  | fewer (stack : p.standings.Sublist (s.port a).standings)
      (withdrawn : p.withdrawn.Sublist (s.port a).withdrawn ∨
        ∃ r : EventRecord, (s.port a).standings = r.standing :: p.standings ∧
          p.withdrawn = ((s.port a).withdraw r.pair).withdrawn)
      (asleep : p.state = .asleep → (s.port a).state = .asleep ∨ p.standings = [])

theorem PortChange.of_eq {s : State} {a : Agent} {p : Port} (h : p = s.port a) : PortChange s a p := by
  subst h
  exact .fewer (.refl _) (.inl (.refl _)) .inl

theorem PortChange.of_setPort {s : State} {a : Agent} {p : Port} (h : PortChange s a p) (b : Agent) :
    PortChange s b ((s.setPort a p).port b) := by
  by_cases here : b = a
  · subst here
    rwa [State.port_setPort_self]
  · exact .of_eq (State.port_setPort_ne s p here)

theorem Popped.portChange {s : State} {a : Agent} {r : EventRecord} {p : Port} (h : Popped (s.port a) r p) :
    PortChange s a p := by
  have stack : (s.port a).standings = r.standing :: p.standings := by rw [Port.standings, h.stack]; rfl
  refine .fewer (stack ▸ List.sublist_cons_self _ _) ?_ fun asleep => .inl (h.state ▸ asleep)
  exact h.withdrawn.imp (fun same => by simp [same]) fun withdrawn => ⟨r, stack, withdrawn⟩

theorem Edit.portChange {s t : State} (e : Edit s t) (a : Agent) : PortChange s a (t.port a) := by
  cases e with
  | control c =>
    have stack : (t.port a).standings = (s.port a).standings := by rw [Port.standings, c.stack, ← Port.standings]
    refine .fewer (stack ▸ .refl _) (.inl (c.withdrawn a)) fun asleep => (c.asleep a asleep).imp_right fun empty => ?_
    rw [stack, Port.standings, empty, List.map_nil]
  | claim b r p d chosen stack time withdrawn state awake =>
    have pushed : p.standings = r.standing :: (s.port b).standings := by rw [Port.standings, stack]; rfl
    exact (PortChange.claimed r chosen pushed withdrawn awake).of_setPort a
  | free b r p popped => exact popped.portChange.of_setPort a
  | handBack b r r' p popped => exact popped.portChange.of_setPort a
  | service ps retopped =>
    have same : Port.standings ps[a] = (s.port a).standings := (retopped a).map_stack _ fun _ _ _ => rfl
    have withdrawn := (retopped a).withdrawn
    have state := (retopped a).state
    exact .fewer (same ▸ .refl _) (.inl (withdrawn ▸ .refl _)) fun asleep => .inl (state ▸ asleep)
  | undecline b =>
    rw [port_undeclineAll]
    have same : Port.standings { s.port a with stack := (s.port a).stack.map (·.undecline b) } = (s.port a).standings := by
      rw [Port.standings, List.map_map]; rfl
    exact .fewer (same ▸ .refl _) (.inl (.refl _)) .inl
  | wipe c =>
    have empty : (t.port a).standings = [] := by rw [Port.standings, c.stack, List.map_nil]
    exact .fewer (empty ▸ List.nil_sublist _) (.inl (c.withdrawn a ▸ List.nil_sublist _)) fun _ => .inr empty
  | link c =>
    have core := c.core
    simp only [State.core, Prod.mk.injEq] at core
    obtain ⟨-, -, ports, -⟩ := core
    exact .of_eq (congrArg (fun ps : Vector Port 4 => ps[a]) ports)
  | _ => exact .of_eq rfl

/-! ## The stack's rules (R58, R65) -/

/-- The stack of agent a is as R65 and R58 say. -/
structure StackRules (a : Agent) (p : Port) : Prop where
  length : p.standings.length ≤ 4
  ordered : p.standings.Pairwise fun upper lower => lower.2.1 < upper.2.1
  permitted : ∀ x ∈ p.standings, x.2.2.getLsbD a.val = true
  asleep : p.state = .asleep → p.standings = []

theorem stackRules_iff (s : State) :
    (∀ a, StackRules a (s.port a)) ↔ StacksOrdered s ∧ StackPermitted s ∧ AsleepEmpty s := by
  have rules (a : Agent) : StackRules a (s.port a) ↔
      ((s.port a).stack.length ≤ 4 ∧ (s.port a).stack.Pairwise fun upper lower => lower.cls < upper.cls) ∧
      (∀ r ∈ (s.port a).stack, r.mayGoTo.getLsbD a.val = true) ∧
      ((s.port a).state = .asleep → (s.port a).stack = []) := by
    constructor
    · rintro ⟨length, ordered, permitted, asleep⟩
      simp only [Port.standings, List.length_map, List.pairwise_map, List.forall_mem_map, List.map_eq_nil_iff] at *
      exact ⟨⟨length, ordered⟩, permitted, asleep⟩
    · rintro ⟨⟨length, ordered⟩, permitted, asleep⟩
      constructor <;> simp only [Port.standings, List.length_map, List.pairwise_map, List.forall_mem_map,
        List.map_eq_nil_iff] <;> assumption
  simp only [rules, forall_and, StacksOrdered, StackPermitted, AsleepEmpty]

/-- R60, R65: the record claimed is permitted, the stack has room for it, and its class is above the top's. -/
theorem StackRules.claimed {s : State} {a : Agent} {r : EventRecord} {p : Port} (h : StackRules a (s.port a))
    (chosen : s.selection a = some r) (stack : p.standings = r.standing :: (s.port a).standings)
    (awake : p.state ≠ .asleep) : StackRules a p := by
  obtain ⟨-, eligible⟩ := mem_of_selection chosen
  simp only [State.eligible, Bool.and_eq_true, decide_eq_true_eq] at eligible
  obtain ⟨⟨⟨⟨⟨-, permitted⟩, -⟩, -⟩, room⟩, above⟩ := eligible
  obtain ⟨length, ordered, allPermitted, -⟩ := h
  constructor
  · rw [stack, List.length_cons, Port.standings, List.length_map]
    exact room
  · rw [stack]
    refine List.pairwise_cons.mpr ⟨fun x mem => ?_, ordered⟩
    cases old : (s.port a).stack with
    | nil => simp [Port.standings, old] at mem
    | cons top rest =>
      simp only [old, decide_eq_true_eq] at above
      rw [Port.standings, old, List.map_cons] at ordered mem
      obtain rfl | under := List.mem_cons.mp mem
      · exact above
      · exact Nat.lt_trans ((List.pairwise_cons.mp ordered).1 x under) above
  · rw [stack]
    exact List.forall_mem_cons.mpr ⟨permitted, allPermitted⟩
  · exact fun asleep => absurd asleep awake

theorem stackRules_of_portChange {s : State} {a : Agent} {p : Port} (c : PortChange s a p)
    (h : StackRules a (s.port a)) : StackRules a p := by
  cases c with
  | claimed r chosen stack withdrawn awake => exact h.claimed chosen stack awake
  | fewer stack withdrawn asleep =>
    obtain ⟨length, ordered, permitted, empty⟩ := h
    refine ⟨Nat.le_trans stack.length_le length, ordered.sublist stack, fun x mem => permitted x (stack.subset mem),
      fun h => ?_⟩
    obtain old | nil := asleep h
    · exact List.sublist_nil.mp (empty old ▸ stack)
    · exact nil

/-! ## The withdrawn list's rules (R71) -/

/-- A withdrawn list of at most four pairs, no two the same. -/
def WithdrawnRules (p : Port) : Prop := p.withdrawn.length ≤ 4 ∧ p.withdrawn.Nodup

theorem withdrawnRules_withdraw {p : Port} (x : Pair) (h : WithdrawnRules p) : WithdrawnRules (p.withdraw x) := by
  obtain ⟨-, nodup⟩ := h
  refine ⟨?_, ?_⟩
  · simp only [Port.withdraw, List.length_drop, Config.stackDepth]
    omega
  · refine List.Nodup.sublist (List.drop_sublist _ _) 
      (List.nodup_append.mpr ⟨nodup.sublist List.filter_sublist, List.nodup_cons.mpr ⟨by simp, .nil⟩, ?_⟩)
    simp

theorem withdrawnRules_of_portChange {s : State} {a : Agent} {p : Port} (c : PortChange s a p)
    (h : WithdrawnRules (s.port a)) : WithdrawnRules p := by
  have shrink {l : List Pair} (sub : l.Sublist (s.port a).withdrawn) : l.length ≤ 4 ∧ l.Nodup :=
    ⟨Nat.le_trans sub.length_le h.1, h.2.sublist sub⟩
  cases c with
  | claimed r chosen stack withdrawn => exact shrink (withdrawn ▸ List.filter_sublist)
  | fewer stack withdrawn =>
    obtain sub | ⟨r, -, same⟩ := withdrawn
    · exact shrink sub
    · have := withdrawnRules_withdraw r.pair h
      unfold WithdrawnRules at this ⊢
      rwa [same]

/-- No pair of the withdrawn list is on the stack. -/
def OffStack (p : Port) : Prop := ∀ x ∈ p.standings, x.1 ∉ p.withdrawn

theorem withdrawnOffStack_iff (s : State) : WithdrawnOffStack s ↔ ∀ a, OffStack (s.port a) := by
  simp [WithdrawnOffStack, OffStack, Port.standings, EventRecord.standing]

theorem mem_withdraw {p : Port} {x y : Pair} (h : y ∈ (p.withdraw x).withdrawn) : y ∈ p.withdrawn ∨ y = x := by
  have := (List.drop_sublist _ _).subset h
  simp only [List.mem_append, List.mem_filter, List.mem_singleton] at this
  exact this.imp_left And.left

/-- The pairs of the records on one stack are distinct where all pairs are (R1). -/
theorem nodup_standings {s : State} (h : PairsDistinct s) (a : Agent) : ((s.port a).standings.map Prod.fst).Nodup := by
  have stacked : (s.port a).stack.Sublist s.stackedRecords :=
    List.sublist_flatten_of_mem (List.mem_map_of_mem (List.mem_finRange a))
  have sub : (s.port a).stack.Sublist s.allocated :=
    stacked.trans ((List.sublist_append_left _ _).trans (List.sublist_append_right _ _))
  rw [Port.standings, List.map_map]
  exact List.Nodup.sublist (sub.map _) h

theorem offStack_of_portChange {s : State} {a : Agent} {p : Port} (c : PortChange s a p) (distinct : PairsDistinct s)
    (h : OffStack (s.port a)) : OffStack p := by
  intro x mem withdrawn
  cases c with
  | claimed r chosen stack same =>
    rw [same, List.mem_filter] at withdrawn
    rw [stack] at mem
    obtain rfl | old := List.mem_cons.mp mem
    · simp [EventRecord.standing] at withdrawn
    · exact h x old withdrawn.1
  | fewer stack same =>
    obtain sub | ⟨r, popped, same⟩ := same
    · exact h x (stack.subset mem) (sub.subset withdrawn)
    · rw [same] at withdrawn
      obtain old | eq := mem_withdraw withdrawn
      · exact h x (stack.subset mem) old
      · have nodup := nodup_standings distinct a
        rw [popped, List.map_cons] at nodup
        exact (List.nodup_cons.mp nodup).1 (List.mem_map.mpr ⟨x, mem, eq⟩)

/-- A port-by-port property that every edit keeps. -/
theorem step_keeps_ports {R : Agent → Port → Prop} (reset : ∀ a, R a (State.reset.port a))
    (edit : ∀ s a p, PortChange s a p → R a (s.port a) → R a p) {s t : State} (h : step s = .next t)
    (start : ∀ a, R a (s.port a)) : ∀ a, R a (t.port a) := by
  refine step_keeps (P := fun s => ∀ a, R a (s.port a)) (fun _ _ => id) reset
    (fun s t e hs a => edit s a _ (e.portChange a) (hs a)) (fun s t e hs a => ?_) h start
  obtain ⟨-, -, ports, -⟩ := e.unchanged
  simpa only [State.port, ports] using hs a

/-- Settles O55: a claim is of an eligible record and drops its pair from the withdrawn list; every other edit shortens the
stack, and may append to the list only the pair of the record that left. -/
theorem stepKeepsStacksAndWithdrawnLists : Obligations.StepKeepsStacksAndWithdrawnLists := by
  unfold Obligations.StepKeepsStacksAndWithdrawnLists
  obtain ⟨-, -, ordered, bounded, -, -, -, -, -, asleep, -, -, -, offStack, -, permitted, -⟩ := resetMeetsTheInvariants
  refine ⟨fun s t hOrdered hPermitted hAsleep h => ?_, fun s t hBounded h => ?_, fun s t hPairs hOff h => ?_⟩
  · exact (stackRules_iff t).mp (step_keeps_ports ((stackRules_iff _).mpr ⟨ordered, permitted, asleep⟩)
      (fun _ _ _ => stackRules_of_portChange) h ((stackRules_iff s).mpr ⟨hOrdered, hPermitted, hAsleep⟩))
  · exact step_keeps_ports (R := fun _ => WithdrawnRules) bounded (fun _ _ _ => withdrawnRules_of_portChange) h hBounded
  · refine step_reaches (P := fun s => PairsDistinct s ∧ WithdrawnOffStack s) (Q := WithdrawnOffStack) (fun _ _ => id)
      (fun u v e ⟨pairs, off⟩ => ⟨pairsDistinct_of_edit e pairs, ?_⟩) (fun _ => And.right) (fun u => ?_)
      (fun u m ⟨_, off⟩ => ?_) h ⟨hPairs, hOff⟩
    · rw [withdrawnOffStack_iff] at off ⊢
      exact fun a => offStack_of_portChange (e.portChange a) pairs (off a)
    · exact offStack
    · simpa only [WithdrawnOffStack, State.port, ports_regroupVisit] using off

end Sys2Proof.Machine
end

section
/-!
PROOF. The safety properties of the Forward Queue and of the records' fields (O56, O60), and what no command changes
(O3, O32).
-/
namespace Sys2Proof.Machine

/-! ## The window after each edit (R158, R161, R164; O56) -/

theorem forwardWindow_congr {s t : State} (link : t.link.state = s.link.state) (transmitter : t.transmitter = s.transmitter)
    (h : ForwardWindow s) : ForwardWindow t := by
  rw [forwardWindow_iff] at h ⊢
  rwa [link, transmitter]

/-- A record joins the queue's end, queued. -/
theorem WindowAt.append {st : LinkState} {t : Transmitter} {n : Nat} (w : WindowAt st t n) (r : EventRecord)
    (room : t.queue.length < 16) : WindowAt st { t with queue := t.queue ++ [⟨r, none⟩] } n := by
  obtain ⟨-, few, ⟨m, seqs⟩, up, mark⟩ := w
  refine ⟨?_, few, ⟨m + 1, ?_⟩, up, mark⟩
  · rw [List.length_append]
    exact room
  · rw [List.map_append, seqs, List.append_assoc, List.replicate_succ']
    rfl

/-- Records of the queue change, their link sequence numbers do not. -/
theorem WindowAt.map {st : LinkState} {t : Transmitter} {n : Nat} (w : WindowAt st t n) (f : Forwarded → Forwarded)
    (seq : ∀ x, (f x).linkSeq = x.linkSeq) : WindowAt st { t with queue := t.queue.map f } n := by
  obtain ⟨length, few, seqs, up, mark⟩ := w
  have same : (t.queue.map f).map (·.linkSeq) = t.queue.map (·.linkSeq) := by
    rw [List.map_map]
    exact List.map_congr_left fun x _ => seq x
  exact ⟨by rwa [List.length_map], few, same ▸ seqs, up, mark⟩

theorem forwardWindow_of_edit {s t : State} (e : Edit s t) (h : ForwardWindow s) : ForwardWindow t := by
  cases e with
  | control c => exact forwardWindow_congr c.linkState c.transmitter h
  | forward a k admitted external route room =>
    obtain ⟨n, w⟩ := (forwardWindow_iff s).mp h
    exact (forwardWindow_iff _).mpr ⟨n, w.append (s.newRecord a k) room⟩
  | undecline a =>
    obtain ⟨n, w⟩ := (forwardWindow_iff s).mp h
    exact (forwardWindow_iff _).mpr ⟨n, w.map _ fun _ => rfl⟩
  | link c => exact c.window h
  | divert f rest r' front queued mark =>
    obtain ⟨n, w⟩ := (forwardWindow_iff s).mp h
    have length := w.length
    rw [front, List.length_cons] at length
    refine (forwardWindow_iff _).mpr ⟨0, windowAt_zero (by dsimp; omega) (fun g mem => queued g ?_) mark⟩
    rw [front]
    exact List.mem_cons_of_mem f mem
  | wipe c =>
    exact (forwardWindow_iff _).mpr ⟨0, windowAt_zero (by simp [c.forward]) (by simp [c.forward]) c.mark⟩
  | _ => exact forwardWindow_congr rfl rfl h

/-! ## The records of the Forward Queue (R158) -/

/-- Where a record of the Forward Queue comes from: it was there, but for its declined set; or it is a new one. -/
theorem Edit.mem_forwardRecords {s t : State} (e : Edit s t) {r : EventRecord} (mem : r ∈ t.forwardRecords) :
    (∃ q ∈ s.forwardRecords, ∃ d, r = { q with declined := d }) ∨
      ∃ a k c, Admitted s a k ∧ a.source.val < 60 ∧ (s.entry a.source).route = .link c ∧ r = s.newRecord a k := by
  have old (sub : t.forwardRecords.Sublist s.forwardRecords) :
      ∃ q ∈ s.forwardRecords, ∃ d, r = { q with declined := d } := ⟨r, sub.subset mem, r.declined, rfl⟩
  cases e with
  | control c => exact .inl (old (forwardRecords_congr c.transmitter ▸ .refl _))
  | forward a k admitted external route =>
    obtain ⟨c, route⟩ := route
    simp only [State.forwardRecords, State.allocateForward, State.setTransmitter_transmitter, List.map_append,
      List.mem_append] at mem
    obtain before | new := mem
    · exact .inl ⟨r, before, r.declined, rfl⟩
    · exact .inr ⟨a, k, c, admitted, external, route, by simpa using new⟩
  | undecline a =>
    rw [forwardRecords_undeclineAll] at mem
    obtain ⟨q, before, rfl⟩ := List.mem_map.mp mem
    exact .inl ⟨q, before, _, rfl⟩
  | link c => exact .inl (old c.forward)
  | divert f rest r' front =>
    refine .inl (old ?_)
    rw [State.forwardRecords, State.forwardRecords, front]
    exact List.sublist_cons_self _ _
  | wipe c => exact .inl (old (by simp [State.forwardRecords, c.forward]))
  | _ => exact .inl (old (.refl _))

/-- R106, R113: a valid enabled entry with a LINK route is one of a line or of a posted source. -/
theorem source_lt_of_link {s : State} (valid : ActiveValid s) {src : Source} {c : BitVec 4}
    (enabled : (s.entry src).enable = true) (route : (s.entry src).route = .link c) : src.val < 44 := by
  have legal := valid src
  simp only [Entry.invalid, enabled, Bool.true_and, Bool.not_eq_false', Entry.legal, Bool.and_eq_true, Bool.or_eq_true,
    decide_eq_true_eq] at legal
  obtain ⟨⟨-, low⟩, -⟩ := legal
  refine low.resolve_right fun off => ?_
  rw [Bool.not_eq_true'] at off
  simp [Entry.route, off] at route

theorem forwardLocal_of_edit {s t : State} (e : Edit s t) (valid : ActiveValid s) (h : ForwardLocal s) :
    ForwardLocal t := by
  intro r mem
  obtain ⟨q, before, d, rfl⟩ | ⟨a, k, c, admitted, -, route, rfl⟩ := e.mem_forwardRecords mem
  · exact h q before
  · refine ⟨source_lt_of_link valid admitted.enabled route, ?_, c, ?_⟩
    · simp only [State.newRecord, route]
    · exact route

/-- Settles O56: a record joins the queue's end while there is room for it and leaves it at the front, and the link's own
commands keep the window; a record that joins is of an enabled entry with a LINK route. -/
theorem stepKeepsForwardWindow : Obligations.StepKeepsForwardWindow := by
  unfold Obligations.StepKeepsForwardWindow
  obtain ⟨-, -, -, -, window, -, -, valid, -, -, -, -, -, -, forwardLocal, -⟩ := resetMeetsTheInvariants
  refine ⟨fun s t start h => ?_, fun s t active start h => ?_⟩
  · refine step_keeps (fun _ _ => id) window (fun _ _ => forwardWindow_of_edit) (fun u v e => ?_) h start
    obtain ⟨-, -, -, transmitter, link, -⟩ := e.unchanged
    exact forwardWindow_congr (by rw [link]) transmitter
  · refine (step_keeps (P := fun s => ActiveValid s ∧ ForwardLocal s) (fun _ _ => id) ⟨valid, forwardLocal⟩
      (fun u v e ⟨hActive, hLocal⟩ => ⟨e.active hActive, forwardLocal_of_edit e hActive hLocal⟩)
      (fun u v e ⟨hActive, hLocal⟩ => ⟨e.active hActive, ?_⟩) h ⟨active, start⟩).2
    obtain ⟨-, -, -, transmitter, -⟩ := e.unchanged
    simpa only [ForwardLocal, forwardRecords_congr transmitter] using hLocal

/-! ## Remaining times and counts (R6, R77, R89; O60) -/

/-- A record that is not in service has no remaining time, and a count. -/
def Waiting (r : EventRecord) : Prop := r.remaining = none ∧ r.count ≠ 0

/-- A record in service has a remaining time that is not 0, if any, and a count. -/
def Serving (r : EventRecord) : Prop := r.remaining ≠ some 0 ∧ r.count ≠ 0

/-- Every record has the fields its place asks for. -/
structure FieldRules (s : State) : Prop where
  pending : ∀ r ∈ s.pendingRecords, Waiting r
  forward : ∀ r ∈ s.forwardRecords, Waiting r
  stacked : ∀ r ∈ s.stackedRecords, Serving r

theorem fieldRules_iff (s : State) : FieldRules s ↔ RemainingInService s ∧ CountsPositive s := by
  constructor
  · rintro ⟨pending, forward, stacked⟩
    refine ⟨⟨fun r mem => (pending r mem).1, fun r mem => (forward r mem).1, fun r mem => (stacked r mem).1⟩, ?_⟩
    intro r mem
    obtain mem | mem | mem := (mem_allocated s r).mp mem
    · exact (pending r mem).2
    · exact (stacked r mem).2
    · exact (forward r mem).2
  · rintro ⟨⟨pending, forward, stacked⟩, counts⟩
    exact ⟨fun r mem => ⟨pending r mem, counts r ((mem_allocated s r).mpr (.inl mem))⟩,
      fun r mem => ⟨forward r mem, counts r ((mem_allocated s r).mpr (.inr (.inr mem)))⟩,
      fun r mem => ⟨stacked r mem, counts r ((mem_allocated s r).mpr (.inr (.inl mem)))⟩⟩

theorem waiting_newRecord (s : State) (a : Arrival) (k : Slot) : Waiting (s.newRecord a k) := by
  refine ⟨rfl, ?_⟩
  unfold State.newRecord
  dsimp only
  split
  · decide
  · assumption

theorem Kin.waiting {r r' : EventRecord} (kin : Kin r r') (time : r'.remaining = r.remaining) (h : Waiting r) :
    Waiting r' :=
  ⟨time.trans h.1, kin.count h.2⟩

theorem Waiting.serving {r : EventRecord} (h : Waiting r) {d : Option Word} (time : d ≠ some 0) :
    Serving { r with remaining := d } :=
  ⟨time, h.2⟩

/-- A record joins a list all of whose members have a property. -/
theorem forall_of_perm_cons {P : EventRecord → Prop} {l l' : List EventRecord} {r : EventRecord}
    (h : l'.Perm (r :: l)) (new : P r) (old : ∀ x ∈ l, P x) : ∀ x ∈ l', P x := fun x mem => by
  obtain rfl | mem := List.mem_cons.mp (h.subset mem)
  · exact new
  · exact old x mem

/-- The top record leaves a stack: it and the records still in service were all in service. -/
theorem mem_of_popped {s : State} {a : Agent} {r : EventRecord} {p : Port} (popped : Popped (s.port a) r p) :
    r ∈ s.stackedRecords ∧ ∀ x ∈ (s.setPort a p).stackedRecords, x ∈ s.stackedRecords := by
  have perm := stackedRecords_setPort_tail popped.stack
  exact ⟨perm.symm.subset List.mem_cons_self, fun x mem => perm.symm.subset (List.mem_cons_of_mem r mem)⟩

theorem Retopped.serving {p p' : Port} (h : Retopped p p') (old : ∀ r ∈ p.stack, Serving r) :
    ∀ r ∈ p'.stack, Serving r := by
  obtain same | ⟨r, rest, d, o, before, time, after⟩ := h.stack
  · rwa [same]
  · rw [before] at old
    rw [after]
    obtain ⟨top, under⟩ := List.forall_mem_cons.mp old
    exact List.forall_mem_cons.mpr ⟨⟨time, top.2⟩, under⟩

theorem fieldRules_of_edit {s t : State} (e : Edit s t) (h : FieldRules s) : FieldRules t := by
  have forward : ∀ r ∈ t.forwardRecords, Waiting r := fun r mem => by
    obtain ⟨q, before, d, rfl⟩ | ⟨a, k, c, -, -, -, rfl⟩ := e.mem_forwardRecords mem
    · exact h.forward q before
    · exact waiting_newRecord s a k
  cases e with
  | control c =>
    refine ⟨?_, forward, ?_⟩
    · rw [pendingRecords_congr c.queues]; exact h.pending
    · rw [stackedRecords_congr c.stack]; exact h.stacked
  | allocate a k retarget =>
    refine ⟨?_, forward, h.stacked⟩
    exact forall_of_perm_cons (pendingRecords_insertTail _ _) (waiting_newRecord s a k) h.pending
  | merge k f kin cls time =>
    refine ⟨?_, forward, h.stacked⟩
    rw [pendingRecords_changePending, List.forall_mem_map]
    intro r mem
    split
    · exact (kin r).waiting (time r) (h.pending r mem)
    · exact h.pending r mem
  | claim a r p d chosen stack time =>
    refine ⟨fun x mem => ?_, forward, ?_⟩
    · exact h.pending x (mem_of_mem_removePending mem)
    · exact forall_of_perm_cons (stackedRecords_setPort_cons (s := s.removePending r.slot) stack)
        ((h.pending r (mem_of_selection chosen).1).serving time) h.stacked
  | free a r p popped => exact ⟨h.pending, forward, fun x mem => h.stacked x ((mem_of_popped popped).2 x mem)⟩
  | handBack a r r' p popped clear kin time =>
    obtain ⟨top, under⟩ := mem_of_popped popped
    refine ⟨?_, forward, fun x mem => h.stacked x (under x mem)⟩
    exact forall_of_perm_cons (pendingRecords_insertHead _ _) ⟨time, kin.count (h.stacked r top).2⟩ h.pending
  | service ps retopped =>
    refine ⟨h.pending, forward, fun r mem => ?_⟩
    obtain ⟨a, mem⟩ := (mem_stackedRecords _ _).mp mem
    exact (retopped a).serving (fun x hx => h.stacked x ((mem_stackedRecords _ _).mpr ⟨a, hx⟩)) r mem
  | undecline a =>
    refine ⟨?_, forward, fun r mem => ?_⟩
    · rw [pendingRecords_undeclineAll, List.forall_mem_map]
      exact h.pending
    · obtain ⟨b, mem⟩ := (mem_stackedRecords _ _).mp mem
      rw [port_undeclineAll] at mem
      obtain ⟨q, old, rfl⟩ := List.mem_map.mp mem
      exact h.stacked q ((mem_stackedRecords _ _).mpr ⟨b, old⟩)
  | link c =>
    have core := c.core
    simp only [State.core, Prod.mk.injEq] at core
    obtain ⟨-, queues, ports, -⟩ := core
    refine ⟨?_, forward, ?_⟩
    · rw [pendingRecords_congr queues]; exact h.pending
    · rw [stackedRecords_congr fun a => congrArg (fun ps : Vector Port 4 => ps[a].stack) ports]; exact h.stacked
  | divert f rest r' front queued mark kin time =>
    refine ⟨?_, forward, h.stacked⟩
    have first : f.record ∈ s.forwardRecords := by simp [State.forwardRecords, front]
    exact forall_of_perm_cons (pendingRecords_insertTail _ _) (kin.waiting time (h.forward _ first)) h.pending
  | remove k =>
    refine ⟨fun x mem => ?_, forward, h.stacked⟩
    exact h.pending x (mem_of_mem_removePending mem)
  | regroup r r' mem kin time =>
    refine ⟨?_, forward, h.stacked⟩
    refine forall_of_perm_cons (pendingRecords_insertTail _ _) (kin.waiting time (h.pending r mem)) fun x mem => ?_
    exact h.pending x (mem_of_mem_removePending mem)
  | wipe c =>
    refine ⟨?_, forward, fun r mem => ?_⟩
    · rw [pendingRecords_congr c.queues]; exact h.pending
    · obtain ⟨a, mem⟩ := (mem_stackedRecords _ _).mp mem
      rw [c.stack] at mem
      cases mem
  | _ => exact ⟨h.pending, forward, h.stacked⟩

theorem fieldRules_of_refresh {s t : State} (e : Refresh s t) (h : FieldRules s) : FieldRules t := by
  obtain ⟨r, r', mem, kin, cls, time⟩ := e
  refine ⟨?_, h.forward, h.stacked⟩
  rw [pendingRecords_changePending, List.forall_mem_map]
  intro x hx
  split
  · exact kin.waiting time (h.pending r mem)
  · exact h.pending x hx

/-! ## Raised-again flags (R29, R31; O60) -/

/-- A raised-again flag is set only while the source's record is in service, and no such record is in the Forward
Queue. -/
structure FlagRules (s : State) : Prop where
  forward : ∀ r ∈ s.forwardRecords, r.source.val < 60
  raised : RaisedInService s

/-- A fold that never loses what it has found. -/
theorem isSome_foldl {α β : Type} {f : Option β → α → Option β} (keeps : ∀ b x, (f (some b) x).isSome) (l : List α) :
    ∀ best : Option β, best.isSome → (l.foldl f best).isSome := by
  induction l with
  | nil => exact fun _ => id
  | cons x l ih =>
    intro best found
    obtain ⟨b, rfl⟩ := Option.isSome_iff_exists.mp found
    exact ih _ (keeps b x)

/-- No record of a source is pending when none is found to merge into (R29). -/
theorem source_ne_of_newestPending {s : State} {src : Source} (h : s.newestPending src = none) :
    ∀ r ∈ s.pendingRecords, r.source ≠ src := by
  intro r mem source
  obtain ⟨before, after, split⟩ := List.append_of_mem mem
  rw [State.newestPending, split, List.foldl_append, List.foldl_cons, if_pos source] at h
  refine absurd h (Option.isSome_iff_ne_none.mp (isSome_foldl (fun b x => ?_) after _ ?_))
  · dsimp only
    split
    · split <;> rfl
    · rfl
  · split
    · rfl
    · split <;> rfl

/-- The record of an internal source that is neither pending nor free is in service (R8). -/
theorem raised_of_flag {s : State} {i : Fin 4} (h : FlagRules s) (none : s.newestPending (internalSource i) = none)
    (some : s.outstanding (internalSource i) ≠ 0) : ∃ r ∈ s.stackedRecords, r.source = internalSource i := by
  obtain ⟨r, mem, source⟩ := List.countP_pos_iff.mp (Nat.pos_of_ne_zero some)
  rw [beq_iff_eq] at source
  obtain pending | stacked | forward := (mem_allocated s r).mp mem
  · exact absurd source (source_ne_of_newestPending none r pending)
  · exact ⟨r, stacked, source⟩
  · have := h.forward r forward
    have := internalSource_ge i
    rw [source] at *
    omega

theorem raisedInService_congr {s t : State} (h : RaisedInService s) (internals : t.internals = s.internals)
    (stack : s.stackedRecords.map (·.source) ⊆ t.stackedRecords.map (·.source)) : RaisedInService t := by
  intro i raised
  obtain ⟨r, mem, source⟩ := h i (by simpa only [State.internal, internals] using raised)
  obtain ⟨r', mem', same⟩ := List.mem_map.mp (stack (List.mem_map_of_mem mem))
  exact ⟨r', mem', same.trans source⟩

/-- A record leaves service: no flag of its source is set (R31). -/
theorem raisedInService_of_popped {s t : State} {a : Agent} {r : EventRecord} {p : Port} (popped : Popped (s.port a) r p)
    (clear : FlagClear s r.source) (internals : t.internals = s.internals)
    (stacked : t.stackedRecords = (s.setPort a p).stackedRecords) (h : RaisedInService s) : RaisedInService t := by
  intro i raised
  have raised' : (s.internal i).raisedAgain = true := by simpa only [State.internal, internals] using raised
  obtain ⟨q, mem, source⟩ := h i raised'
  have old := (stackedRecords_setPort_tail popped.stack).subset mem
  rw [stacked]
  obtain rfl | mem := List.mem_cons.mp old
  · exact absurd raised' (by simp [clear i source])
  · exact ⟨q, mem, source⟩

theorem raisedInService_of_edit {s t : State} (e : Edit s t) (h : FlagRules s) : RaisedInService t := by
  cases e with
  | control c => exact raisedInService_congr h.raised c.internals (by rw [stackedRecords_congr c.stack]; exact fun _ => id)
  | flag i x inService =>
    intro j raised
    by_cases here : j = i
    · subst here
      rw [State.internal_setInternal_self] at raised
      obtain ⟨none, some⟩ := inService raised
      exact (raised_of_flag h none some :)
    · rw [State.internal_setInternal_ne s x here] at raised
      exact h.raised j raised
  | claim a r p d chosen stack =>
    refine raisedInService_congr h.raised rfl ?_
    have pushed := stackedRecords_setPort_cons (s := s.removePending r.slot) stack
    exact List.map_subset _ fun x mem => pushed.symm.subset (List.mem_cons_of_mem _ mem)
  | free a r p popped clear => exact raisedInService_of_popped popped clear rfl rfl h.raised
  | handBack a r r' p popped clear => exact raisedInService_of_popped popped clear rfl rfl h.raised
  | service ps retopped =>
    refine raisedInService_congr h.raised rfl ?_
    have same := map_stackedRecords (s := s) (t := { s with ports := ps }) (·.source) fun a =>
      (retopped a).map_stack (·.source) fun _ _ _ => rfl
    rw [same]
    exact fun _ => id
  | undecline a =>
    refine raisedInService_congr h.raised rfl ?_
    have same := map_stackedRecords (s := s) (t := s.undeclineAll a) (·.source) fun b => by
      rw [port_undeclineAll, List.map_map]; rfl
    rw [same]
    exact fun _ => id
  | link c =>
    have core := c.core
    simp only [State.core, Prod.mk.injEq] at core
    obtain ⟨-, -, ports, -, -, -, -, -, -, -, -, internals, -⟩ := core
    refine raisedInService_congr h.raised internals ?_
    rw [stackedRecords_congr fun a => congrArg (fun ps : Vector Port 4 => ps[a].stack) ports]
    exact fun _ => id
  | wipe c => exact fun i raised => absurd raised (by simp [c.flags i])
  | _ => exact raisedInService_congr h.raised rfl fun _ => id

theorem flagRules_of_edit {s t : State} (e : Edit s t) (h : FlagRules s) : FlagRules t := by
  refine ⟨fun r mem => ?_, raisedInService_of_edit e h⟩
  obtain ⟨q, before, d, rfl⟩ | ⟨a, k, c, -, external, -, rfl⟩ := e.mem_forwardRecords mem
  · exact h.forward q before
  · exact external

/-- Settles O60: a record's time starts at a claim and ends when it leaves the stack, a count never falls to 0; a flag is
set only for a record in service, and when that record leaves its source's flag is clear. -/
theorem stepKeepsRecordFields : Obligations.StepKeepsRecordFields := by
  unfold Obligations.StepKeepsRecordFields
  obtain ⟨-, -, -, -, -, -, -, -, -, -, remaining, counts, -, -, -, -, raised⟩ := resetMeetsTheInvariants
  refine ⟨fun s t hRemaining hCounts h => ?_, fun s t _ hLocal hRaised h => ?_⟩
  · exact (fieldRules_iff t).mp (step_keeps (fun _ _ ⟨pending, forward, stacked⟩ => ⟨pending, forward, stacked⟩)
      ((fieldRules_iff _).mpr ⟨remaining, counts⟩) (fun _ _ => fieldRules_of_edit) (fun _ _ => fieldRules_of_refresh) h
      ((fieldRules_iff s).mpr ⟨hRemaining, hCounts⟩))
  · refine (step_keeps (P := FlagRules) (fun _ _ ⟨forward, raised⟩ => ⟨forward, raised⟩) ⟨by simp, raised⟩
      (fun _ _ => flagRules_of_edit) (fun u v e ⟨forward, raised⟩ => ?_) h ⟨fun r mem => ?_, hRaised⟩).raised
    · obtain ⟨r, r', mem, kin⟩ := e
      exact ⟨forward, raised⟩
    · have := (hLocal r mem).1
      omega

end Sys2Proof.Machine
end

section
/-!
PROOF. What no command changes: the queue of commands (O3); and what none but a power-on reset changes while the part is
frozen (O32).
-/
namespace Sys2Proof.Machine

/-- A property that every edit and every refresh keeps is kept by every command but a power-on reset. -/
theorem exec_keeps {P : State → Prop} (edit : ∀ s t, Edit s t → P s → P t) (refresh : ∀ s t, Refresh s t → P s → P t)
    {c : Instr} {s t : State} (h : exec c s = .next t) (noReset : c ≠ .powerOnReset) (start : P s) : P t := by
  by_cases visit : ∃ m, c = .regroupVisit m
  · obtain ⟨m, rfl⟩ := visit
    cases h
    split
    · exact start
    · obtain ⟨u, first, rest⟩ := regroupVisit_edits s m
      refine rest.keeps edit ?_
      obtain rfl | refreshed := first
      · exact start
      · exact refresh _ _ refreshed start
  · exact (exec_edits h noReset fun m eq => visit ⟨m, eq⟩).keeps edit start

/-! ## The queue of commands (O3) -/

theorem Edit.pending {s t : State} (e : Edit s t) : t.pending = s.pending := by
  cases e with
  | control c => exact c.pending
  | link c =>
    have core := c.core
    simp only [State.core, Prod.mk.injEq] at core
    exact core.1
  | wipe c => exact c.pending
  | _ => rfl

/-- Every command has a result. -/
theorem exec_next (c : Instr) (s : State) : ∃ t, exec c s = .next t := by
  cases c <;> exact ⟨_, rfl⟩

/-- Settles O3: a power-on reset keeps the queue, and so does every edit. -/
theorem everyCommandAnswersNextAndKeepsTheQueue : Obligations.EveryCommandAnswersNextAndKeepsTheQueue := by
  unfold Obligations.EveryCommandAnswersNextAndKeepsTheQueue
  intro c s
  obtain ⟨t, h⟩ := exec_next c s
  refine ⟨t, h, ?_⟩
  by_cases power : c = .powerOnReset
  · subst power
    cases h
    rfl
  · refine exec_keeps (P := fun u => u.pending = s.pending) (fun u v e hu => e.pending.trans hu) (fun u v e hu => ?_) h power
      rfl
    obtain ⟨-, -, -, -, -, -, pending⟩ := e.unchanged
    exact pending.trans hu

/-! ## The frozen tables (R122, R123; O32) -/

theorem Edit.keepsFrozen {s t : State} (e : Edit s t) : KeepsFrozen s t := by
  cases e with
  | control c => exact c.frozen
  | wipe c => exact c.frozen
  | link c =>
    have core := c.core
    simp only [State.core, Prod.mk.injEq] at core
    obtain ⟨-, -, -, -, -, -, -, active, deadlines, -, frozen, -⟩ := core
    exact fun _ h => ⟨frozen.trans h, active, deadlines⟩
  | _ => exact fun _ h => ⟨h, rfl, rfl⟩

/-- The part is consistent and frozen, and its active tables are those of s. -/
structure FrozenAs (s t : State) : Prop where
  unit : UnitConsistent t
  frozen : t.table.frozen = true
  active : t.table.active = s.table.active
  deadlines : t.table.activeDeadlines = s.table.activeDeadlines

theorem frozenAs_of_edit {s u v : State} (e : Edit u v) (h : FrozenAs s u) : FrozenAs s v := by
  obtain ⟨frozen, active, deadlines⟩ := e.keepsFrozen h.unit h.frozen
  exact ⟨e.unit h.unit, frozen, active.trans h.active, deadlines.trans h.deadlines⟩

theorem frozenAs_of_refresh {s u v : State} (e : Refresh u v) (h : FrozenAs s u) : FrozenAs s v := by
  obtain ⟨table, -⟩ := e.unchanged
  obtain ⟨unit, frozen, active, deadlines⟩ := h
  exact ⟨e.unit unit, table ▸ frozen, table ▸ active, table ▸ deadlines⟩

theorem exec_freeze_idle {s : State} (page : Agent) (operand : Byte) (running : s.inReset = false)
    (idle : s.walking = false) : exec (.freeze page operand) s = .next (s.freeze page operand) :=
  whileRunning_takeCommand_idle 4 (State.freeze page operand) running idle

/-- Settles O32: FREEZE by the session; and while a consistent part is frozen, each edit keeps its active tables. -/
theorem freezeIsFinal : Obligations.FreezeIsFinal := by
  unfold Obligations.FreezeIsFinal
  refine ⟨fun s page operand running idle => ?_, fun s t unit frozen h noReset => ?_⟩
  · rw [exec_freeze_idle page operand running idle]
    refine ⟨fun closed => ?_, fun opened => ?_⟩
    · rw [State.freeze, if_pos closed]; rfl
    · rw [State.freeze, if_neg (by simp [opened])]; rfl
  · have start : FrozenAs s s := ⟨unit, frozen, rfl, rfl⟩
    have finish : FrozenAs s t := by
      unfold step at h
      split at h
      · cases h
        exact (clk_edits s).keeps (fun _ _ => frozenAs_of_edit) start
      · next c rest queue =>
        have ready : FrozenAs s { s with pending := rest } := ⟨unit, frozen, rfl, rfl⟩
        exact exec_keeps (fun _ _ => frozenAs_of_edit) (fun _ _ => frozenAs_of_refresh) h
          (fun power => noReset (by rw [queue, power, List.head?_cons])) ready
    exact ⟨finish.frozen, finish.active, finish.deadlines⟩

end Sys2Proof.Machine
end

section
/-!
PROOF. Triggers, captures, arrivals and raisings (O9 to O13): what each step of the resolution gives.
-/
namespace Sys2Proof.Machine

/-! ## Triggers and captures (R22, R23, R25; O9) -/

/-- A word with bits set one after another. -/
theorem getLsbD_foldl_set {n : Nat} (P : Fin n → Bool) (l : List (Fin n)) (j : Fin 16) :
    ∀ w : Word, (l.foldl (fun w i => if P i then w ||| (1 : Word) <<< i.val else w) w).getLsbD j.val =
      (w.getLsbD j.val || l.any fun i => P i && decide (i.val = j.val)) := by
  induction l with
  | nil => simp
  | cons i l ih =>
    intro w
    have single : ((1 : Word) <<< i.val).getLsbD j.val = decide (i.val = j.val) := by
      change ((1#16) <<< i.val).getLsbD j.val = _
      rw [← BitVec.twoPow_eq, BitVec.getLsbD_twoPow]
      exact Bool.eq_iff_iff.mpr (by simp; omega)
    rw [List.foldl_cons, ih, List.any_cons]
    cases P i
    · rfl
    · rw [if_pos rfl, BitVec.getLsbD_or, single, Bool.true_and, Bool.or_assoc]

/-- R25: bit m of a group's capture word is the stable level of its line m. -/
theorem getLsbD_levelWord (s : State) (group : Fin 2) (i : Fin 16) :
    (s.levelWord group).getLsbD i.val = (s.line ⟨16 * group.val + i.val, by omega⟩).stable := by
  rw [State.levelWord, getLsbD_foldl_set (fun i : Fin 16 => (s.line ⟨16 * group.val + i.val, by omega⟩).stable)]
  have clear : (0 : Word).getLsbD i.val = false := BitVec.getLsbD_zero
  rw [clear, Bool.false_or]
  refine Bool.eq_iff_iff.mpr ⟨fun any => ?_, fun level => ?_⟩
  · obtain ⟨k, -, found⟩ := List.any_eq_true.mp any
    rw [Bool.and_eq_true, decide_eq_true_iff] at found
    obtain ⟨level, same⟩ := found
    rwa [Fin.ext same] at level
  · exact List.any_eq_true.mpr ⟨i, List.mem_finRange i, by simp [level]⟩

/-- Settles O9: the trigger code by its values, the capture word bit by bit. -/
theorem triggerAndCaptureRule : Obligations.TriggerAndCaptureRule := by
  unfold Obligations.TriggerAndCaptureRule
  intro s n level
  refine ⟨?_, fun off => by simp [State.lineArrival, off], fun on => ?_⟩
  · unfold State.qualifies Entry.triggerMode
    match (s.entry (lineSource n)).trigger.toNat with
    | 0 | 1 | 2 | 3 | 4 | _ + 5 => rfl
  refine ⟨s.levelWord ⟨n.val / 16, by omega⟩, by simp [State.lineArrival, on], fun m group => ?_⟩
  rw [getLsbD_levelWord s ⟨n.val / 16, by omega⟩ ⟨m.val % 16, by omega⟩]
  congr 2
  exact Fin.ext (by dsimp only; omega)

/-! ## The newest pending record (R34) -/

/-- What a further pending record makes of the newest one found so far. -/
def newerOf (src : Source) (best : Option EventRecord) (r : EventRecord) : Option EventRecord :=
  if r.source = src then
    match best with
    | none => some r
    | some b => if b.serial < r.serial then some r else some b
  else best

theorem newestPending_eq (s : State) (src : Source) : s.newestPending src = s.pendingRecords.foldl (newerOf src) none := rfl

/-- What is found stays found, or a newer record replaces it. -/
theorem newerOf_some (src : Source) (b x : EventRecord) :
    ∃ r, newerOf src (some b) x = some r ∧ b.serial ≤ r.serial ∧ (x.source = src → x.serial ≤ r.serial) := by
  unfold newerOf
  split
  · dsimp only
    split
    · next newer => exact ⟨x, rfl, Nat.le_of_lt newer, fun _ => Nat.le_refl _⟩
    · next older => exact ⟨b, rfl, Nat.le_refl _, fun _ => Nat.le_of_not_lt older⟩
  · next other => exact ⟨b, rfl, Nat.le_refl _, fun source => absurd source other⟩

theorem newerOf_none {src : Source} {x : EventRecord} (source : x.source = src) : newerOf src none x = some x :=
  if_pos source

/-- From a record found first, the fold goes on to one that is at least as new as it and all that follow. -/
theorem foldl_newerOf_some (src : Source) (l : List EventRecord) (b : EventRecord) :
    ∃ r, l.foldl (newerOf src) (some b) = some r ∧ b.serial ≤ r.serial ∧
      ∀ x ∈ l, x.source = src → x.serial ≤ r.serial := by
  induction l generalizing b with
  | nil => exact ⟨b, rfl, Nat.le_refl _, by simp⟩
  | cons x l ih =>
    obtain ⟨c, step, le, first⟩ := newerOf_some src b x
    obtain ⟨r, rest, le', others⟩ := ih c
    refine ⟨r, by rw [List.foldl_cons, step, rest], Nat.le_trans le le', List.forall_mem_cons.mpr ⟨fun source => ?_, others⟩⟩
    exact Nat.le_trans (first source) le'

/-- R34: no pending record of the source was allocated after the newest one. -/
theorem serial_le_newestPending {s : State} {src : Source} {r : EventRecord} (h : s.newestPending src = some r) :
    ∀ x ∈ s.pendingRecords, x.source = src → x.serial ≤ r.serial := by
  rw [newestPending_eq] at h
  generalize s.pendingRecords = l at h ⊢
  induction l with
  | nil => simp
  | cons y l ih =>
    rw [List.foldl_cons] at h
    by_cases source : y.source = src
    · rw [newerOf_none source] at h
      obtain ⟨q, found, first, others⟩ := foldl_newerOf_some src l y
      cases h.symm.trans found
      exact List.forall_mem_cons.mpr ⟨fun _ => first, others⟩
    · rw [newerOf, if_neg source] at h
      exact List.forall_mem_cons.mpr ⟨fun source' => absurd source' source, ih h⟩

/-! ## Steps 1 to 4 (R33, R34; O10) -/

/-- The source is enabled and neither under PURGE nor under a CLEAR walk: the arrival is considered (R33). -/
structure Considered (s : State) (src : Source) : Prop where
  enabled : (s.entry src).enable = true
  noPurge : s.underPurge src = false
  noClear : s.clearing = false

theorem resolve_disabled {s : State} {a : Arrival} (off : (s.entry a.source).enable = false) :
    s.resolve a = (s, .ignored) := by
  simp [State.resolve, off]

theorem resolve_discarded {s : State} {a : Arrival} (on : (s.entry a.source).enable = true)
    (walk : s.underPurge a.source = true ∨ s.clearing = true) : s.resolve a = (s, .discarded) := by
  unfold State.resolve
  simp only [on, Bool.not_true, Bool.false_eq_true, if_false]
  split
  · rfl
  · next noPurge => rw [if_pos (walk.resolve_left noPurge)]

theorem resolve_count {s : State} {a : Arrival} {r : EventRecord} (h : Considered s a.source)
    (mode : (s.entry a.source).coalesceMode = .count) (newest : s.newestPending a.source = some r) :
    s.resolve a = (s.changePending r.slot (·.mergeCount), .merged) := by
  simp [State.resolve, h.enabled, h.noPurge, h.noClear, mode, newest]

theorem resolve_latest {s : State} {a : Arrival} {r : EventRecord} (h : Considered s a.source)
    (mode : (s.entry a.source).coalesceMode = .latest) (newest : s.newestPending a.source = some r) :
    s.resolve a = (s.changePending r.slot (·.mergeLatest s.timebase.tick a.payload), .merged) := by
  simp [State.resolve, h.enabled, h.noPurge, h.noClear, mode, newest]

/-- Without a merge, steps 5 and 6 decide. -/
theorem resolve_unmerged {s : State} {a : Arrival} (h : Considered s a.source)
    (unmerged : (s.entry a.source).coalesceMode = .never ∨ s.newestPending a.source = none) :
    s.resolve a = s.allocateOrOverflow a := by
  obtain never | none := unmerged
  · simp [State.resolve, h.enabled, h.noPurge, h.noClear, never]
  · cases mode : (s.entry a.source).coalesceMode <;>
      simp [State.resolve, h.enabled, h.noPurge, h.noClear, mode, none]

/-- Settles O10: steps 1 to 4 one by one. -/
theorem arrivalNotConsideredOrMerged : Obligations.ArrivalNotConsideredOrMerged := by
  unfold Obligations.ArrivalNotConsideredOrMerged
  refine ⟨fun s a => ⟨resolve_disabled, resolve_discarded⟩, fun s a r _ on noPurge noClear newest => ?_⟩
  have considered : Considered s a.source := ⟨on, noPurge, noClear⟩
  obtain ⟨mem, source⟩ := mem_of_newestPending newest
  refine ⟨⟨mem, source, serial_le_newestPending newest⟩, fun count => ?_, fun latest => ?_⟩
  · exact resolve_count considered (by simp [Entry.coalesceMode, count]) newest
  · exact resolve_latest considered (by simp [Entry.coalesceMode, latest]) newest

/-! ## Step 5 (R35; O11) -/

theorem allocateOrOverflow_room {s : State} {a : Arrival} {k : Slot} (room : s.hasRoom a.source = true)
    (free : s.freeSlot = some k) : s.allocateOrOverflow a = s.place a k := by
  rw [State.allocateOrOverflow, if_pos room, free]

/-- R14: the first number from the counter on that is free. -/
theorem freshSeq_eq {s : State} {src : Source} {j : Nat} (lt : j < 256)
    (free : ∀ r ∈ s.allocated, ¬(r.source = src ∧ r.seq = s.pool.nextSeq[src] + BitVec.ofNat 8 j))
    (taken : ∀ i < j, ∃ r ∈ s.allocated, r.source = src ∧ r.seq = s.pool.nextSeq[src] + BitVec.ofNat 8 i) :
    s.freshSeq src = s.pool.nextSeq[src] + BitVec.ofNat 8 j := by
  have found : (List.range 256).find? (fun k => s.allocated.all fun r =>
      !(r.source == src && r.seq == s.pool.nextSeq[src] + BitVec.ofNat 8 k)) = some j := by
    refine List.find?_range_eq_some.mpr ⟨?_, List.mem_range.mpr lt, fun i hi => ?_⟩
    · simpa [Decidable.imp_iff_not_or] using free
    · simpa [Decidable.imp_iff_not_or] using taken i hi
  rw [State.freshSeq, found]
  rfl

/-- Step 5's placing tests, passed (R35). -/
theorem place_agents {s : State} {a : Arrival} {set : BitVec 4} (k : Slot)
    (route : (s.entry a.source).route = .agents set) : s.place a k = (s.allocatePending a k none, .allocated) := by
  rw [State.place, route]

theorem place_link {s : State} {a : Arrival} {c : BitVec 4} (k : Slot) (route : (s.entry a.source).route = .link c)
    (notDown : s.link.state ≠ .down) : s.place a k = (s.allocateForward a k, .allocated) := by
  rw [State.place, route]
  exact if_neg notDown

theorem place_diverted {s : State} {a : Arrival} {c : BitVec 4} {b : Agent} (k : Slot)
    (route : (s.entry a.source).route = .link c) (down : s.link.state = .down)
    (fallback : (s.entry a.source).fallback = some b) : s.place a k = (s.allocatePending a k (some b), .diverted) := by
  rw [State.place, route, fallback]
  exact if_pos down

theorem place_lost {s : State} {a : Arrival} {c : BitVec 4} (k : Slot)
    (route : (s.entry a.source).route = .link c) (down : s.link.state = .down)
    (fallback : (s.entry a.source).fallback = none) :
    s.place a k = ({ s with faults := { s.faults with linkLost := satByte s.faults.linkLost } }, .lost) := by
  rw [State.place, route, fallback]
  exact if_pos down

/-- Settles O11: the tests of step 5 hold, so the arrival is placed by route, link state and fallback; the slot and the
sequence number are the first free ones. -/
theorem arrivalPlaced : Obligations.ArrivalPlaced := by
  unfold Obligations.ArrivalPlaced
  refine ⟨?_, ?_⟩
  · intro s a k set on noPurge noClear unmerged route outstanding held free lower j lt unused used
    have room : s.hasRoom a.source = true := (hasRoom_iff s a.source).mpr ⟨outstanding, held, by simp [route]⟩
    have slot : s.freeSlot = some k := (freeSlot_eq_some s k).mpr ⟨free, lower⟩
    have seq := freshSeq_eq lt unused used
    rw [resolve_unmerged ⟨on, noPurge, noClear⟩ unmerged, allocateOrOverflow_room room slot, place_agents k route]
    simp only [State.allocatePending, State.newRecord, seq, route, Entry.snapshot]
    rfl
  · intro s a channel k on noPurge noClear unmerged route outstanding held free lower
    have slot : s.freeSlot = some k := (freeSlot_eq_some s k).mpr ⟨free, lower⟩
    have placed (link : s.link.state = .down ∨ s.transmitter.queue.length < 16) : s.resolve a = s.place a k := by
      have room : s.hasRoom a.source = true := (hasRoom_iff s a.source).mpr ⟨outstanding, held, fun _ _ => link⟩
      rw [resolve_unmerged ⟨on, noPurge, noClear⟩ unmerged, allocateOrOverflow_room room slot]
    refine ⟨fun j lt unused used => ?_, fun down fallback => ?_⟩
    · have seq := freshSeq_eq lt unused used
      refine ⟨fun notDown room => ?_, fun down b fallback => ?_⟩
      · rw [placed (.inr room), place_link k route notDown]
        simp only [State.allocateForward, State.newRecord, seq, route, Entry.snapshot]
        rfl
      · rw [placed (.inl down), place_diverted k route down fallback]
        simp only [State.allocatePending, State.newRecord, seq, route, Entry.snapshot]
        rfl
    · rw [placed (.inl down), place_lost k route down fallback]

/-! ## Step 6 (R36; O12) -/

theorem allocateOrOverflow_full {s : State} {a : Arrival} (full : s.hasRoom a.source = false) :
    s.allocateOrOverflow a = (s.countOverflow a.source, .overflow) := by
  simp [State.allocateOrOverflow, full]

/-- Settles O12: a test of step 5 fails, so the overflow is counted. -/
theorem arrivalOverflows : Obligations.ArrivalOverflows := by
  unfold Obligations.ArrivalOverflows
  intro s a _ on noPurge noClear unmerged failed
  have full : s.hasRoom a.source = false := by
    refine Bool.eq_false_iff.mpr fun room => ?_
    obtain ⟨outstanding, held, link⟩ := (hasRoom_iff s a.source).mp room
    obtain h | h | ⟨notDown, h, c, route⟩ := failed
    · omega
    · omega
    · have := (link c route).resolve_left notDown
      omega
  rw [resolve_unmerged ⟨on, noPurge, noClear⟩ unmerged, allocateOrOverflow_full full]
  rfl

/-! ## Raisings (R29; O13) -/

theorem raise_disabled {s : State} {i : Fin 4} (w0 w1 : Word) (off : (s.entry (internalSource i)).enable = false) :
    s.raise i w0 w1 = s := by
  simp [State.raise, off]

theorem raise_discarded {s : State} {i : Fin 4} (w0 w1 : Word)
    (walk : s.underPurge (internalSource i) = true ∨ s.clearing = true) : s.raise i w0 w1 = s := by
  unfold State.raise
  dsimp only
  split
  · rfl
  · exact if_pos (Bool.or_eq_true _ _ ▸ walk)

theorem raise_merged {s : State} {i : Fin 4} {r : EventRecord} (w0 w1 : Word) (h : Considered s (internalSource i))
    (newest : s.newestPending (internalSource i) = some r) :
    s.raise i w0 w1 = s.changePending r.slot (·.mergeCause w0 w1) := by
  simp [State.raise, h.enabled, h.noPurge, h.noClear, newest]

theorem raise_allocated {s : State} {i : Fin 4} {k : Slot} (w0 w1 : Word) (h : Considered s (internalSource i))
    (newest : s.newestPending (internalSource i) = none) (none : s.outstanding (internalSource i) = 0)
    (free : s.freeSlot = some k) : s.raise i w0 w1 = s.allocatePending ⟨internalSource i, .two w0 w1, 1⟩ k .none := by
  simp [State.raise, h.enabled, h.noPurge, h.noClear, newest, none, free]

theorem raise_flagged {s : State} {i : Fin 4} (w0 w1 : Word) (h : Considered s (internalSource i))
    (newest : s.newestPending (internalSource i) = none) (some : s.outstanding (internalSource i) ≠ 0) :
    s.raise i w0 w1 = s.setInternal i { raisedAgain := true, latest0 := w0, latest1 := w1 } := by
  simp [State.raise, h.enabled, h.noPurge, h.noClear, newest, some]

/-- A source without records has none pending. -/
theorem newestPending_eq_none {s : State} {src : Source} (h : s.outstanding src = 0) : s.newestPending src = none := by
  cases newest : s.newestPending src with
  | none => rfl
  | some r =>
    obtain ⟨mem, source⟩ := mem_of_newestPending newest
    exact absurd (beq_iff_eq.mpr source) (List.countP_eq_zero.mp h r ((mem_allocated s r).mpr (.inl mem)))

/-- Settles O13: the rows of R29's table. -/
theorem internalRaisingTable : Obligations.InternalRaisingTable := by
  unfold Obligations.InternalRaisingTable
  intro s i w0 w1
  refine ⟨raise_disabled w0 w1, fun on => ⟨raise_discarded w0 w1, fun noPurge noClear => ?_⟩⟩
  have considered : Considered s (internalSource i) := ⟨on, noPurge, noClear⟩
  exact ⟨fun r newest => raise_merged w0 w1 considered newest,
    fun k none free => raise_allocated w0 w1 considered (newestPending_eq_none none) none free,
    raise_flagged w0 w1 considered⟩

end Sys2Proof.Machine
end

section
/-!
PROOF. Dispatch and the agent ports (O14 to O20): eligibility and the scan, CLAIM, COMPLETE, RELEASE, AGENT_CTRL, and the
words of an agent page.
-/
namespace Sys2Proof.Machine

/-! ## Eligibility (R60; O14) -/

theorem mayGoTo_iff (r : EventRecord) (a : Agent) :
    r.mayGoTo.getLsbD a.val = true ↔
      (match r.retarget, r.snap.targets with
       | some b, _ => a = b
       | none, .agents set => set.getLsbD a.val = true
       | none, .link _ => False) := by
  unfold EventRecord.mayGoTo
  cases r.retarget with
  | some b =>
    have bit : (agentBit b).getLsbD a.val = decide (a.val = b.val) := by
      change ((1#4) <<< b.val).getLsbD a.val = _
      rw [← BitVec.twoPow_eq, BitVec.getLsbD_twoPow]
      exact Bool.eq_iff_iff.mpr (by simp; omega)
    simp only [bit, decide_eq_true_eq, Fin.ext_iff]
  | none =>
    cases r.snap.targets with
    | agents set => rfl
    | link c => simp

theorem eligible_iff (s : State) (a : Agent) (r : EventRecord) :
    s.eligible a r = true ↔
      s.held r.source = false ∧ r.mayGoTo.getLsbD a.val = true ∧ r.declined.getLsbD a.val = false ∧
        (s.port a).threshold < r.cls ∧ (s.port a).stack.length < 4 ∧
        ((s.port a).stack = [] ∨ ∃ top below, (s.port a).stack = top :: below ∧ top.cls < r.cls) := by
  have depth (n : Nat) : decide (n < Config.stackDepth) = true ↔ n < 4 := decide_eq_true_iff
  unfold State.eligible
  cases (s.port a).stack with
  | nil => simp only [Bool.and_eq_true, Bool.not_eq_true', decide_eq_true_eq, depth, and_assoc]; simp
  | cons top below => simp only [Bool.and_eq_true, Bool.not_eq_true', decide_eq_true_eq, depth, and_assoc]; simp

/-! ## The scan (R47, R48; O14) -/

/-- Of a family of lists joined together, one is all there is. -/
theorem flatMap_eq_of_others_nil {α β : Type} {l : List α} (nodup : l.Nodup) {f : α → List β} {c : α} (mem : c ∈ l)
    (others : ∀ d, d ≠ c → f d = []) : l.flatMap f = f c := by
  obtain ⟨before, after, rfl⟩ := List.append_of_mem mem
  obtain ⟨-, nodup', apart⟩ := List.nodup_append.mp nodup
  have nil (m : List α) (h : c ∉ m) : m.flatMap f = [] :=
    List.flatMap_eq_nil_iff.mpr fun d hd => others d fun eq => h (eq ▸ hd)
  rw [List.flatMap_append, List.flatMap_cons, nil before fun h => apart c h c List.mem_cons_self rfl,
    nil after (List.nodup_cons.mp nodup').1, List.nil_append, List.append_nil]

/-- The records of one class, in the order of the scan, are that class's queue. -/
theorem filter_pendingRecords {s : State} (h : QueuesByClass s) (c : Class) :
    s.pendingRecords.filter (fun r => decide (r.cls = c)) = s.queue c := by
  rw [State.pendingRecords, List.filter_flatMap,
    flatMap_eq_of_others_nil classesDown_nodup (mem_classesDown c) fun d other => ?_]
  · exact List.filter_eq_self.mpr fun r mem => decide_eq_true (h c r mem)
  · exact List.filter_eq_nil_iff.mpr fun r mem => by simp [h d r mem, other]

/-- The scan meets the classes from 15 down to 0. -/
theorem pendingRecords_descending {s : State} (h : QueuesByClass s) :
    s.pendingRecords.Pairwise fun x y => y.cls ≤ x.cls := by
  have down : classesDown.Pairwise fun c d => d < c :=
    List.pairwise_reverse.mpr (List.pairwise_lt_finRange 16)
  rw [State.pendingRecords, List.pairwise_flatMap]
  refine ⟨fun c _ => List.pairwise_of_forall_mem_list fun x hx y hy => ?_, down.imp fun lt x hx y hy => ?_⟩
  · exact Nat.le_of_eq (congrArg Fin.val ((h c y hy).trans (h c x hx).symm))
  · rw [h _ x hx, h _ y hy]
    exact Fin.le_of_lt lt

/-- R47, R48: the first eligible record is of the highest class any eligible record has, and first in its queue. -/
theorem selection_spec {s : State} {a : Agent} {r : EventRecord} (byClass : QueuesByClass s)
    (h : s.selection a = some r) :
    (∀ x ∈ s.pendingRecords, s.eligible a x = true → x.cls ≤ r.cls) ∧
      ∃ front back, s.queue r.cls = front ++ r :: back ∧ ∀ x ∈ front, s.eligible a x = false := by
  obtain ⟨-, before, after, split, passed⟩ := List.find?_eq_some_iff_append.mp h
  simp only [Bool.not_eq_true'] at passed
  constructor
  · intro x mem eligible
    have descending := pendingRecords_descending byClass
    rw [split] at mem descending
    obtain early | mem := List.mem_append.mp mem
    · simp [passed x early] at eligible
    · obtain rfl | late := List.mem_cons.mp mem
      · exact Nat.le_refl _
      · exact (List.pairwise_cons.mp (List.pairwise_append.mp descending).2.1).1 x late
  · refine ⟨before.filter (fun x => decide (x.cls = r.cls)), after.filter (fun x => decide (x.cls = r.cls)), ?_,
      fun x mem => passed x (List.mem_filter.mp mem).1⟩
    rw [← filter_pendingRecords byClass, split, List.filter_append, List.filter_cons_of_pos (by simp)]

theorem exists_selection {s : State} {a : Agent} (h : ∃ r ∈ s.pendingRecords, s.eligible a r = true) :
    ∃ r, s.selection a = some r := by
  obtain ⟨r, mem, eligible⟩ := h
  refine Option.ne_none_iff_exists'.mp fun none => ?_
  simp [(selection_eq_none s a).mp none r mem] at eligible

/-- Settles O14: the conditions one by one; the scan's record is the first eligible one of the descending order. -/
theorem eligibilityAndSelection : Obligations.EligibilityAndSelection := by
  unfold Obligations.EligibilityAndSelection
  refine ⟨fun s a r => ?_, fun s a r byClass h => ?_, fun s a => exists_selection⟩
  · rw [eligible_iff, mayGoTo_iff]
    rfl
  · obtain ⟨mem, eligible⟩ := mem_of_selection h
    exact ⟨mem, eligible, selection_spec byClass h⟩

/-! ## CLAIM (R58, R62, R63, R88; O15) -/

theorem withStack_serving {p : Port} (stack : List EventRecord) (serving : p.state ≠ .draining) :
    p.withStack stack = portWithTop p stack :=
  withStack_eq p stack serving

/-- R58: an agent that may claim is ACTIVE once it reads CLAIM. -/
theorem wake_eq {s : State} {a : Agent} (ready : (s.port a).state = .active ∨ (s.port a).state = .asleep) :
    s.wake a = s.setPort a { s.port a with state := .active } := by
  obtain active | asleep := ready
  · have same : ({ s.port a with state := .active } : Port) = s.port a := by rw [← active]
    rw [State.wake, if_neg (by simp [active]), same, State.setPort_port]
  · rw [State.wake, if_pos asleep]

theorem claim_of_closed {s : State} {a : Agent} (closed : (s.port a).state = .off ∨ (s.port a).state = .draining) :
    s.claim a = s.answerClaim a 0xFFFF .noRecord := by
  rw [State.claim, if_pos closed]
  rfl

/-- An agent that may claim is answered once it is ACTIVE (R58, R62). -/
theorem claim_of_walking {s : State} {a : Agent} (ready : (s.port a).state = .active ∨ (s.port a).state = .asleep)
    (walking : s.walking = true) :
    s.claim a = (s.setPort a { s.port a with state := .active }).answerClaim a 0xFFFE .deferred := by
  have may : ¬((s.port a).state = .off ∨ (s.port a).state = .draining) := by
    obtain h | h := ready <;> simp [h]
  rw [State.claim, if_neg may, wake_eq ready]
  exact if_pos walking

theorem claim_of_none {s : State} {a : Agent} (ready : (s.port a).state = .active ∨ (s.port a).state = .asleep)
    (idle : s.walking = false) (none : s.selection a = none) :
    s.claim a = (s.setPort a { s.port a with state := .active }).answerClaim a 0xFFFF .noRecord := by
  have may : ¬((s.port a).state = .off ∨ (s.port a).state = .draining) := by
    obtain h | h := ready <;> simp [h]
  have same : (s.setPort a { s.port a with state := .active }).selection a = .none := by
    rw [selection_setPort s a { s.port a with state := .active } rfl rfl, none]
  have stillIdle : (s.setPort a { s.port a with state := .active }).walking = false := idle
  rw [State.claim, if_neg may, wake_eq ready]
  simp only [stillIdle, same]
  rfl

theorem claim_of_some {s : State} {a : Agent} {r : EventRecord}
    (ready : (s.port a).state = .active ∨ (s.port a).state = .asleep) (idle : s.walking = false)
    (some : s.selection a = some r) :
    s.claim a = (s.setPort a { s.port a with state := .active }).claimRecord a r := by
  have may : ¬((s.port a).state = .off ∨ (s.port a).state = .draining) := by
    obtain h | h := ready <;> simp [h]
  have same : (s.setPort a { s.port a with state := .active }).selection a = .some r := by
    rw [selection_setPort s a { s.port a with state := .active } rfl rfl, some]
  have stillIdle : (s.setPort a { s.port a with state := .active }).walking = false := idle
  rw [State.claim, if_neg may, wake_eq ready]
  simp only [stillIdle, same]
  rfl

theorem answerClaim_setPort (s : State) (a : Agent) (p : Port) (answer : Word) (x : LastResult) :
    (s.setPort a p).answerClaim a answer x =
      { s.setPort a { p with lastResult := x } with dataOut := answer } := by
  simp [State.answerClaim, State.setLastResult]

@[simp] theorem withdrawn_portWithTop (p : Port) (stack : List EventRecord) :
    (portWithTop p stack).withdrawn = p.withdrawn := by
  unfold portWithTop
  split
  · rfl
  · split
    · rfl
    · split
      · rfl
      · split <;> rfl

theorem removePending_setPort (s : State) (a : Agent) (p : Port) (k : Slot) :
    (s.setPort a p).removePending k = (s.removePending k).setPort a p := rfl

/-- The record claimed becomes the top, with its deadline's time, and its pair is no longer withdrawn (R63, R71, R88). -/
theorem claimRecord_setPort (s : State) (a : Agent) (p : Port) (r : EventRecord) (serving : p.state ≠ .draining) :
    (s.setPort a p).claimRecord a r =
      { (s.removePending r.slot).setPort a
          { portWithTop p ({ r with remaining := s.deadlineFor r } :: p.stack) with
            view := .top, lastResult := .claimed
            withdrawn := p.withdrawn.filter (· != r.pair) } with
        dataOut := r.snap.handle } := by
  have deadline : (s.setPort a p).deadlineFor r = s.deadlineFor r := rfl
  unfold State.claimRecord Port.forget
  dsimp only
  rw [removePending_setPort, State.port_setPort_self, deadline, withStack_serving _ serving, withdrawn_portWithTop,
    State.setPort_setPort]

/-- Settles O15: by the agent's state, then by the walk, then by the scan. -/
theorem claimResult : Obligations.ClaimResult := by
  unfold Obligations.ClaimResult
  intro s a running awake
  rw [exec_claim_running s a running]
  refine ⟨fun closed => ?_, fun ready => ⟨fun walking => ?_, fun idle none => ?_, fun idle r chosen => ?_⟩⟩
  · rw [claim_of_closed closed]
    rfl
  · rw [claim_of_walking ready walking, answerClaim_setPort]
  · rw [claim_of_none ready idle ((selection_eq_none s a).mpr none), answerClaim_setPort]
  · intro entry
    rw [claim_of_some ready idle chosen, claimRecord_setPort s a awake r (by simp [awake])]
    rfl

/-! ## COMPLETE and RELEASE: the checks (R67; O16) -/

theorem exec_complete {s : State} (a : Agent) (src : Source) (seq : Byte) (running : s.inReset = false) :
    exec (.complete a src seq) s = .next (s.endService a ⟨src, seq⟩ false) :=
  whileRunning_running s (fun s => s.endService a ⟨src, seq⟩ false) running

theorem exec_release {s : State} (a : Agent) (src : Source) (seq : Byte) (running : s.inReset = false) :
    exec (.release a src seq) s = .next (s.endService a ⟨src, seq⟩ true) :=
  whileRunning_running s (fun s => s.endService a ⟨src, seq⟩ true) running

theorem endService_draining {s : State} {a : Agent} (x : Pair) (release : Bool)
    (draining : (s.port a).state = .draining) : s.endService a x release = s.setLastResult a .draining := by
  rw [State.endService, if_pos draining]

/-- The pair names the top record. -/
theorem endService_top {s : State} {a : Agent} {r : EventRecord} {below : List EventRecord} (release : Bool)
    (serving : (s.port a).state ≠ .draining) (stack : (s.port a).stack = r :: below) :
    s.endService a r.pair release = if release then s.releaseTop a r else s.completeTop a r := by
  rw [State.endService, if_neg serving, stack]
  exact if_pos rfl

theorem endService_notTop {s : State} {a : Agent} {r : EventRecord} {below : List EventRecord} {x : Pair} (release : Bool)
    (serving : (s.port a).state ≠ .draining) (stack : (s.port a).stack = r :: below) (other : r.pair ≠ x)
    (under : ∃ y ∈ below, y.pair = x) : s.endService a x release = s.setLastResult a .notTop := by
  rw [State.endService, if_neg serving, stack]
  refine (if_neg other).trans (if_pos ?_)
  simpa using under

/-- The pair names no record on the stack. -/
theorem endService_absent {s : State} {a : Agent} {x : Pair} (release : Bool) (serving : (s.port a).state ≠ .draining)
    (absent : ∀ r ∈ (s.port a).stack, r.pair ≠ x) :
    s.endService a x release =
      if x ∈ (s.port a).withdrawn then s.setPort a { (s.port a).forget x with lastResult := .late }
      else s.setLastResult a .unknown := by
  rw [State.endService, if_neg serving]
  cases stack : (s.port a).stack with
  | nil => rfl
  | cons r below =>
    rw [stack] at absent
    obtain ⟨top, under⟩ := List.forall_mem_cons.mp absent
    refine (if_neg top).trans (if_neg ?_)
    simpa using under

/-! ### The port after the top record is completed or released -/

/-- The port of a popped top, with its last result. -/
def State.served (s : State) (a : Agent) (below : List EventRecord) (x : LastResult) : State :=
  s.setPort a { portWithTop (s.port a) below with lastResult := x }

theorem setLastResult_pop {s : State} {a : Agent} {r : EventRecord} {below : List EventRecord} (x : LastResult)
    (serving : (s.port a).state ≠ .draining) (stack : (s.port a).stack = r :: below) :
    (s.pop a).setLastResult a x = s.served a below x := by
  simp [State.pop, State.setLastResult, State.served, stack, withStack_serving _ serving]

theorem ports_freeInService (s : State) (src : Source) : (s.freeInService src).1.ports = s.ports := by
  obtain ⟨_, _, _, same⟩ := freeInService_eq s src
  rw [same]

theorem ports_followUps (s : State) (fs : List FollowUp) : (s.followUps fs).ports = s.ports := by
  obtain ⟨_, _, _, _, _, _, same⟩ := followUps_eq s fs
  rw [same]

theorem ports_handBack (s : State) (r : EventRecord) : (s.handBack r).ports = s.ports := by
  obtain ⟨_, -, -, -, _, same⟩ := handBack_eq s r
  rw [same]
  rfl

/-- The top record's COMPLETE or RELEASE is answered DONE or RELEASED. -/
theorem lastResult_endService_top {s : State} {a : Agent} {r : EventRecord} {below : List EventRecord} (release : Bool)
    (serving : (s.port a).state ≠ .draining) (stack : (s.port a).stack = r :: below) :
    ((s.endService a r.pair release).port a).lastResult = if release then .released else .done := by
  rw [endService_top release serving stack]
  have answered (x : LastResult) : ((s.served a below x).port a).lastResult = x := by
    rw [State.served, State.port_setPort_self]
  cases release with
  | true =>
    simp only [if_true, State.releaseTop, setLastResult_pop _ serving stack, State.port, ports_handBack]
    exact answered .released
  | false =>
    simp only [Bool.false_eq_true, if_false, State.completeTop, setLastResult_pop _ serving stack, State.port,
      ports_followUps, ports_freeInService]
    exact answered .done

/-- Settles O16: the checks in their order. -/
theorem completeCheckOrder : Obligations.CompleteCheckOrder := by
  unfold Obligations.CompleteCheckOrder
  intro s a src seq c running named p x answer
  obtain ⟨release, written, result⟩ : ∃ release, exec c s = .next (s.endService a x release) ∧
      (if release then LastResult.released else .done) = if c = .complete a src seq then .done else .released := by
    obtain rfl | rfl := named
    · exact ⟨false, exec_complete a src seq running, by simp⟩
    · exact ⟨true, exec_release a src seq running, by simp⟩
  simp only [answer, written]
  refine ⟨fun draining => ?_, fun serving ⟨r, below, stack, top⟩ => ?_, fun serving ⟨r, below, stack, other, under⟩ => ?_,
    fun serving absent withdrawn => ?_, fun serving absent unknown => ?_⟩
  · rw [endService_draining x release draining]
    rfl
  · exact ⟨_, rfl, by rw [← result, ← top, lastResult_endService_top release serving stack]⟩
  · rw [endService_notTop release serving stack other under]
    rfl
  · rw [endService_absent release serving absent, if_pos withdrawn]
    rfl
  · rw [endService_absent release serving absent, if_neg unknown]
    rfl

/-! ## A record freed in service (R11, R24, R30, R171; O17) -/

theorem lineNotices_singleton (s : State) (src : Source) :
    s.lineNotices [src] =
      (lineOf src).elim [] fun n => if s.outstanding src = 0 ∧ s.underPurge src = false then [.rearm n] else [] := by
  have single : [src].eraseDups = [src] := rfl
  unfold State.lineNotices
  rw [single]
  cases line : lineOf src with
  | none => simp [line]
  | some n =>
    by_cases idle : s.outstanding src = 0 ∧ s.underPurge src = false
    · simp [line, idle]
    · simp only [List.filterMap_cons, line, Option.elim_some, if_neg idle]
      rw [if_neg (by simpa using idle)]
      rfl

theorem lineOf_eq_none {src : Source} (h : 32 ≤ src.val) : lineOf src = none := by
  simp [lineOf]; omega

theorem lineOf_eq_some {src : Source} {n : Line} (h : lineOf src = some n) : src.val < 32 ∧ src = lineSource n := by
  unfold lineOf at h
  split at h
  · next low => cases h; exact ⟨low, rfl⟩
  · cases h

theorem isChannel_eq (src : Source) : isChannel src = decide (44 ≤ src.val ∧ src.val < 60) := by
  simp [isChannel]

/-- A posted source: nothing follows. -/
theorem freeInService_posted {s : State} {src : Source} (low : 32 ≤ src.val) (high : src.val < 44) :
    s.freeInService src = (s, []) := by
  have noChannel : isChannel src = false := by simp [isChannel]; omega
  simp [State.freeInService, noChannel, internalOf_eq_none (by omega : src.val < 60), lineNotices_singleton,
    lineOf_eq_none low]

/-- A link channel source: the grant grows. -/
theorem freeInService_channel {s : State} {src : Source} (low : 44 ≤ src.val) (high : src.val < 60) :
    s.freeInService src = (s.growGrant, []) := by
  have channel : isChannel src = true := by simp [isChannel]; omega
  simp [State.freeInService, channel, internalOf_eq_none high, lineNotices_singleton,
    lineOf_eq_none (by omega : 32 ≤ src.val)]

/-- An internal source: a raised-again flag is cleared, its cause to be raised. -/
theorem freeInService_raised {s : State} {src : Source} {i : Fin 4} (source : internalOf src = some i)
    (raised : (s.internal i).raisedAgain = true) :
    s.freeInService src =
      (s.setInternal i { s.internal i with raisedAgain := false },
        [.raise i (s.internal i).latest0 (s.internal i).latest1]) := by
  have noChannel : isChannel src = false := by
    have := internalSource_ge i
    rw [← eq_internalSource source] at this
    simp [isChannel]; omega
  simp [State.freeInService, noChannel, source, raised]

theorem freeInService_quiet {s : State} {src : Source} {i : Fin 4} (source : internalOf src = some i)
    (quiet : (s.internal i).raisedAgain = false) : s.freeInService src = (s, []) := by
  have noChannel : isChannel src = false := by
    have := internalSource_ge i
    rw [← eq_internalSource source] at this
    simp [isChannel]; omega
  simp [State.freeInService, noChannel, source, quiet]

/-- A line source: its line is to be re-armed when its last record was freed, unless a PURGE holds the notice back. -/
theorem freeInService_line {s : State} {src : Source} {n : Line} (line : lineOf src = some n) :
    s.freeInService src =
      (s, if s.outstanding src = 0 ∧ s.underPurge src = false then [.rearm n] else []) := by
  obtain ⟨low, -⟩ := lineOf_eq_some line
  have noChannel : isChannel src = false := by simp [isChannel]; omega
  simp [State.freeInService, noChannel, internalOf_eq_none (by omega : src.val < 60), lineNotices_singleton, line]

theorem exec_complete_top {s : State} {a : Agent} {r : EventRecord} {below : List EventRecord}
    (running : s.inReset = false) (serving : (s.port a).state ≠ .draining) (stack : (s.port a).stack = r :: below)
    {t : State} {fs : List FollowUp} (freed : (s.served a below .done).freeInService r.source = (t, fs)) :
    exec (.complete a r.source r.seq) s = .next (t.followUps fs) := by
  have top : s.endService a ⟨r.source, r.seq⟩ false = s.completeTop a r := endService_top false serving stack
  rw [exec_complete a r.source r.seq running, top, State.completeTop, setLastResult_pop _ serving stack, freed]

/-- Settles O17: by the kind of the record's source. -/
theorem completeTopResult : Obligations.CompleteTopResult := by
  unfold Obligations.CompleteTopResult
  intro s a r below running serving stack s1 done
  have ends {t : State} {fs : List FollowUp} (freed : s1.freeInService r.source = (t, fs)) : done (t.followUps fs) :=
    exec_complete_top running serving stack freed
  refine ⟨fun low high => ?_, fun low high => ?_, fun i source => ?_, fun n line => ?_⟩
  · exact followUps_nil s1 ▸ ends (freeInService_posted low high)
  · exact followUps_nil s1.growGrant ▸ ends (freeInService_channel low high)
  · split
    · next raised => exact followUps_raise _ i _ _ ▸ ends (freeInService_raised source raised)
    · next quiet =>
      exact followUps_nil s1 ▸ ends (freeInService_quiet source (Bool.eq_false_iff.mpr quiet))
  · obtain ⟨-, source⟩ := lineOf_eq_some line
    have freed := ends (freeInService_line line)
    by_cases idle : s1.outstanding r.source = 0 ∧ s1.underPurge r.source = false
    · rw [if_pos idle, followUps_rearm] at freed
      rw [source] at *
      have purge : s.underPurge (lineSource n) = false := idle.2
      simp only [idle.1, purge, true_and, and_true] at freed ⊢
      split at freed
      · next active => rwa [if_pos active]
      · next passive => rwa [if_neg passive]
    · rw [if_neg idle, followUps_nil] at freed
      rw [if_neg fun h => idle ⟨h.1, h.2.1⟩]
      exact freed

/-! ## RELEASE of the top record (R31, R42, R61, R69; O18) -/

theorem handBack_external {s : State} {r : EventRecord} (h : r.source.val < 60) : s.handBack r = s.insertHead r := by
  simp [State.handBack, internalOf_eq_none h]

theorem handBack_raised {s : State} {r : EventRecord} {i : Fin 4} (source : internalOf r.source = some i)
    (raised : (s.internal i).raisedAgain = true) :
    s.handBack r =
      (s.setInternal i { s.internal i with raisedAgain := false }).insertHead
        { r with count := satByte r.count, payload := .two (s.internal i).latest0 (s.internal i).latest1 } := by
  simp [State.handBack, source, raised]

theorem handBack_quiet {s : State} {r : EventRecord} {i : Fin 4} (source : internalOf r.source = some i)
    (quiet : (s.internal i).raisedAgain = false) : s.handBack r = s.insertHead r := by
  simp [State.handBack, source, quiet]

/-- R61: a declined set that covers every agent the record may go to is emptied. -/
theorem testDeclined_eq (r : EventRecord) :
    r.testDeclined =
      { r with declined := if r.declined &&& r.mayGoTo = r.mayGoTo then 0 else r.declined } := by
  unfold EventRecord.testDeclined
  split <;> rfl

theorem exec_release_top {s : State} {a : Agent} {r : EventRecord} {below : List EventRecord}
    (running : s.inReset = false) (serving : (s.port a).state ≠ .draining) (stack : (s.port a).stack = r :: below) :
    exec (.release a r.source r.seq) s = .next ((s.served a below .released).handBack
      ({ r with remaining := none, declined := r.declined ||| agentBit a } : EventRecord).testDeclined) := by
  have top : s.endService a ⟨r.source, r.seq⟩ true = s.releaseTop a r := endService_top true serving stack
  rw [exec_release a r.source r.seq running, top, State.releaseTop, setLastResult_pop _ serving stack]

/-- Settles O18: the record goes back to the head of its queue, with the cause of a raising that met it in service. -/
theorem releaseTopResult : Obligations.ReleaseTopResult := by
  unfold Obligations.ReleaseTopResult
  intro s a r below running serving stack s1 declined back done
  have same : ({ r with remaining := none, declined := r.declined ||| agentBit a } : EventRecord).testDeclined = back :=
    testDeclined_eq _
  have released : done (s1.handBack back) := same ▸ exec_release_top running serving stack
  refine ⟨fun external => ?_, fun i source => ?_⟩
  · rwa [handBack_external (r := back) external] at released
  · split
    · next raised => rwa [handBack_raised (s := s1) (r := back) source raised] at released
    · next quiet => rwa [handBack_quiet (s := s1) (r := back) source (Bool.eq_false_iff.mpr quiet)] at released

/-! ## AGENT_CTRL (R57; O19) -/

theorem setLastResult_eq_setAgent {s : State} {a : Agent} {st : AgentState} (h : (s.port a).state = st) (x : LastResult) :
    s.setLastResult a x = s.setAgent a st x := by
  subst h
  rfl

theorem exec_disable_running (s : State) (a : Agent) (running : s.inReset = false) :
    exec (.disable a) s = .next (s.disableAgent a) :=
  whileRunning_running s (fun s => s.disableAgent a) running

theorem exec_sleep_running (s : State) (a : Agent) (running : s.inReset = false) :
    exec (.sleep a) s = .next (s.sleepAgent a) :=
  whileRunning_running s (fun s => s.sleepAgent a) running

theorem exec_badRequest_running (s : State) (a : Agent) (code : BitVec 4) (running : s.inReset = false) :
    exec (.badRequest a code) s = .next (s.agentCtrl a code) :=
  whileRunning_running s (fun s => s.agentCtrl a code) running

/-- Settles O19: the columns of R57's table, row by row. -/
theorem agentControlTable : Obligations.AgentControlTable := by
  unfold Obligations.AgentControlTable
  intro s a running p becomes
  refine ⟨?_, ?_, ?_, fun code enable disable sleep => ?_⟩
  · rw [exec_enable_running s a running, State.enableAgent]
    split
    · next draining => rw [setLastResult_eq_setAgent draining]; rfl
    · rfl
  · rw [exec_disable_running s a running, State.disableAgent]
    cases state : (s.port a).state with
    | draining => simp only [setLastResult_eq_setAgent state]; rfl
    | active =>
      simp only [p, setLastResult_eq_setAgent state, List.isEmpty_iff]
      split <;> rfl
    | off => rfl
    | asleep => rfl
  · rw [exec_sleep_running s a running, State.sleepAgent]
    cases state : (s.port a).state with
    | draining => simp only [setLastResult_eq_setAgent state]; rfl
    | active =>
      simp only [p, setLastResult_eq_setAgent state, List.isEmpty_iff]
      split <;> rfl
    | off => simp only [setLastResult_eq_setAgent state]; rfl
    | asleep => rfl
  · rw [exec_badRequest_running s a code running, State.agentCtrl, if_neg enable, if_neg disable, if_neg sleep]
    rfl

/-! ## THRESHOLD, VIEW_LEVEL and the status words (R59, R72, R73, R75, R87, R197; O20) -/

theorem exec_thresholdWrite_running (s : State) (a : Agent) (w : Word) (running : s.inReset = false) :
    exec (.thresholdWrite a w) s = .next (s.writeThreshold a w) :=
  whileRunning_running s (fun s => s.writeThreshold a w) running

theorem exec_viewLevelWrite_running (s : State) (a : Agent) (w : Word) (running : s.inReset = false) :
    exec (.viewLevelWrite a w) s = .next (s.writeView a w) :=
  whileRunning_running s (fun s => s.writeView a w) running

theorem timerRunning_iff (p : Port) :
    p.timerRunning = true ↔ p.state ≠ .draining ∧ ∃ r below, p.stack = r :: below ∧ r.remaining.isSome = true := by
  unfold Port.timerRunning
  cases p.stack <;> simp

/-- The class in AGENT_STATUS: the top record's, 0 for an empty stack. -/
def topClass (p : Port) : Nat := (p.stack.head?.map (·.cls.val)).getD 0

theorem topClass_lt (p : Port) : topClass p < 16 := by
  unfold topClass
  cases p.stack with
  | nil => decide
  | cons r below => exact r.cls.isLt

theorem AgentState.code_lt (st : AgentState) : st.code < 4 := by
  cases st <;> decide

theorem statusWord_eq (p : Port) :
    p.statusWord =
      placed p.state.code 0 ||| placed p.timerRunning.toNat 2 ||| placed p.stack.length 4 ||| placed (topClass p) 8 := by
  unfold Port.statusWord topClass
  rw [bitAt_eq_placed]
  cases p.stack <;> rfl

/-- AGENT_STATUS: state, timer, depth, top class (R197). -/
theorem toNat_statusWord {p : Port} (depth : p.stack.length ≤ 4) :
    p.statusWord.toNat = p.state.code + 4 * p.timerRunning.toNat + 16 * p.stack.length + 256 * topClass p := by
  have state := p.state.code_lt
  have timer := Bool.toNat_le p.timerRunning
  have cls := topClass_lt p
  have code : (placed p.state.code 0).toNat = p.state.code := toNat_placed_zero (by omega)
  have running := toNat_or_placed (n := p.timerRunning.toNat) (start := 2) code (by omega) (by omega)
  have stack := toNat_or_placed (n := p.stack.length) (start := 4) running (by omega) (by omega)
  rw [statusWord_eq, toNat_or_placed stack (by omega) (by omega)]
  omega

/-- A withdrawn pair's word (R72, R197). -/
theorem busRead_withdrawn {s : State} (a : Agent) {i : Nat} (running : s.inReset = false) (bound : i < 4) :
    s.busRead (BitVec.ofNat 8 (32 * a.val + (0x13 + i))) = (s.port a).withdrawnWord i := by
  rw [busRead_page s a running (by omega)]
  match i, bound with
  | 0, _ | 1, _ | 2, _ | 3, _ => rfl

theorem placed_zero (n : Nat) : placed n 0 = BitVec.ofNat 16 n := by simp [placed]

/-- Settles O20: the two writes, what they read back, and the status words field by field. -/
theorem thresholdAndViewWrites : Obligations.ThresholdAndViewWrites := by
  unfold Obligations.ThresholdAndViewWrites
  refine ⟨fun s a w running => ⟨exec_thresholdWrite_running s a w running, exec_viewLevelWrite_running s a w running, ?_, ?_⟩,
    ?_⟩
  · rw [busRead_page s a running (by decide)]
    exact placed_zero _
  · rw [busRead_page s a running (by decide)]
    change viewWord (s.port a).view = _
    cases (s.port a).view with
    | top => rfl
    | fixed l => exact placed_zero _
  intro s a running ordered bounded p word
  refine ⟨timerRunning_iff p, ?_, ?_, ?_, ?_⟩
  · have value : word 0x05 = p.statusWord := busRead_page s a running (by decide)
    rw [value, toNat_statusWord (ordered a).1]
    congr 1
    · cases p.state <;> cases p.timerRunning <;> rfl
    · unfold topClass
      cases p.stack <;> rfl
  · have value : word 0x06 = placed p.lastResult.code 0 := busRead_page s a running (by decide)
    rw [value]
    cases p.lastResult <;> rfl
  · have value : word 0x12 = placed p.withdrawn.length 0 := busRead_page s a running (by decide)
    have few : p.withdrawn.length ≤ 4 := (bounded a).1
    rw [value, toNat_placed_zero (by omega)]
  · intro i bound
    have value : word (0x13 + i) = p.withdrawnWord i := busRead_withdrawn a running bound
    rw [value]
    refine ⟨fun x there => ?_, fun unused => ?_⟩
    · simp only [Port.withdrawnWord, there, toNat_pairWord]
    · simp only [Port.withdrawnWord, List.getElem?_eq_none unused]

end Sys2Proof.Machine
end

section
/-!
PROOF. Deadline expiry (O23, O24): what the expiry of the top record does by its policy and its retry limit.
-/
namespace Sys2Proof.Machine

/-! ## An expiry that is due (R89, R93) -/

theorem exec_deadlineExpiry {s : State} (a : Agent) (running : s.inReset = false) :
    exec (.deadlineExpiry a) s = .next (s.takeExpiry a) :=
  whileRunning_running s (fun s => s.takeExpiry a) running

theorem takeExpiry_due {s : State} {a : Agent} {r : EventRecord} {below : List EventRecord}
    (serving : (s.port a).state ≠ .draining) (due : (s.port a).tickDue = true) (stack : (s.port a).stack = r :: below)
    (timed : r.remaining.isSome = true) : s.takeExpiry a = s.expire a r := by
  have counting : (s.port a).timerRunning = true := (timerRunning_iff _).mpr ⟨serving, r, below, stack, timed⟩
  simp [State.takeExpiry, due, counting, stack]

/-- R94, R95: below the retry limit the record is handed back, at it retired. -/
theorem expire_handBack {s : State} (a : Agent) {r : EventRecord} (policy : r.snap.policy = .handBack)
    (more : r.returns.val < r.snap.retryLimit.val) : s.expire a r = s.returnTop a r := by
  simp [State.expire, policy, Nat.not_le.mpr more]

theorem expire_escalate {s : State} (a : Agent) {r : EventRecord} (policy : r.snap.policy = .escalate)
    (more : r.returns.val < r.snap.retryLimit.val) : s.expire a r = s.escalateTop a r := by
  simp [State.expire, policy, Nat.not_le.mpr more]

theorem expire_note {s : State} (a : Agent) {r : EventRecord} (policy : r.snap.policy = .note) :
    s.expire a r = s.noteTop a r := by
  simp [State.expire, policy]

theorem expire_retire {s : State} (a : Agent) {r : EventRecord} (policy : r.snap.policy ≠ .note)
    (spent : r.snap.retryLimit.val ≤ r.returns.val) : s.expire a r = s.retire a r := by
  unfold State.expire
  cases which : r.snap.policy with
  | note => exact absurd which policy
  | handBack => exact if_pos spent
  | escalate => exact if_pos spent

/-! ## The parts of an expiry -/

theorem and_agentBit_eq (set : BitVec 4) (b : Agent) : set &&& agentBit b = agentBit b ↔ set.getLsbD b.val = true := by
  revert set b
  decide

/-- R61: with a retarget the declined set covers all when it holds that agent. -/
theorem testDeclined_retarget {r : EventRecord} {b : Agent} (retarget : r.retarget = some b) :
    r.testDeclined = { r with declined := if r.declined.getLsbD b.val then 0 else r.declined } := by
  have only : r.mayGoTo = agentBit b := by simp [EventRecord.mayGoTo, retarget]
  simp only [testDeclined_eq, only, and_agentBit_eq]

/-- R96: the record goes up one class, and to its fallback agent alone. -/
theorem escalate_eq_of_none {r : EventRecord} (none : r.snap.fallback = none) :
    r.escalate = { r with remaining := .none, returns := satFin r.returns, cls := satFin r.cls, escalated := true } := by
  simp [EventRecord.escalate, none]

theorem escalate_eq_of_some {r : EventRecord} {b : Agent} (some : r.snap.fallback = some b) :
    r.escalate =
      { r with
        remaining := none, returns := satFin r.returns, cls := satFin r.cls, escalated := true
        retarget := .some b, declined := if r.declined.getLsbD b.val then 0 else r.declined } := by
  simp only [EventRecord.escalate, some]
  exact testDeclined_retarget rfl

/-- The cause words of a DEADLINE raising (R99, R134). -/
theorem deadlineCause_eq (code : Nat) (r : EventRecord) :
    deadlineCause code r = (placed code 12 ||| BitVec.ofNat 16 r.source.val, r.seq.setWidth 16) := by
  rw [deadlineCause, placed_zero]

theorem noteTop_overdue {s : State} {a : Agent} {r : EventRecord} {below : List EventRecord}
    (stack : (s.port a).stack = r :: below) (marked : r.overdue = true) :
    s.noteTop a r = s.setPort a
      { s.port a with stack := { r with remaining := none, overdue := true } :: below, tickDue := false } := by
  simp [State.noteTop, marked, stack]

theorem noteTop_fresh {s : State} {a : Agent} {r : EventRecord} {below : List EventRecord}
    (stack : (s.port a).stack = r :: below) (unmarked : r.overdue = false) :
    s.noteTop a r =
      ((s.setPort a
        { s.port a with stack := { r with remaining := none, overdue := true } :: below, tickDue := false }).setFault
          .overdue).raise 1 (0x2000 ||| BitVec.ofNat 16 r.source.val) (r.seq.setWidth 16) := by
  have code : placed 2 12 = 0x2000 := rfl
  simp only [State.noteTop, unmarked, stack, deadlineCause_eq, code, List.tail_cons]
  rfl

theorem expiryPop_of_stack {s : State} {a : Agent} {r : EventRecord} {below : List EventRecord}
    (stack : (s.port a).stack = r :: below) :
    s.expiryPop a r = s.setPort a
      { s.port a with
        stack := below, tickDue := false, withdrawn := ((s.port a).withdraw r.pair).withdrawn } := by
  rw [expiryPop_eq, stack, List.tail_cons]

/-- Settles O23: by the policy; the popped port is that of `expiryPop`. -/
theorem expiryHandsBackOrNotes : Obligations.ExpiryHandsBackOrNotes := by
  unfold Obligations.ExpiryHandsBackOrNotes
  refine ⟨fun s a r below running serving due stack timed more => ?_,
    fun s a r below running serving due stack timed policy => ?_⟩
  · intro kept s1 back
    have popped : s.expiryPop a r = s1 := expiryPop_of_stack stack
    rw [exec_deadlineExpiry a running, takeExpiry_due serving due stack timed]
    refine ⟨fun policy => ?_, fun policy => ?_⟩
    · rw [expire_handBack a policy more, State.returnTop, popped]
    · intro up
      rw [expire_escalate a policy more, State.escalateTop, popped]
      cases fallback : r.snap.fallback with
      | none => rw [escalate_eq_of_none fallback]
      | some b => rw [escalate_eq_of_some fallback]
  · intro s1
    rw [exec_deadlineExpiry a running, takeExpiry_due serving due stack timed, expire_note a policy]
    exact ⟨fun marked => by rw [noteTop_overdue stack marked], fun unmarked => by rw [noteTop_fresh stack unmarked]⟩

/-! ## Retirement (R94; O24) -/

theorem retire_eq {s : State} {a : Agent} {r : EventRecord} :
    s.retire a r =
      (((s.expiryPop a r).freeInService r.source).1.setFault .retired).followUps
        (((s.expiryPop a r).freeInService r.source).2 ++
          [.raise 1 (0x1000 ||| BitVec.ofNat 16 r.source.val) (r.seq.setWidth 16)]) := by
  have code : placed 1 12 = 0x1000 := rfl
  simp only [State.retire, deadlineCause_eq, code]
  rfl

/-- Freeing one record gives one follow-up at most. -/
theorem freeInService_atMostOne (s : State) (src : Source) :
    (s.freeInService src).2 = [] ∨ ∃ f, (s.freeInService src).2 = [f] := by
  cases kind : internalOf src with
  | some i =>
    cases raised : (s.internal i).raisedAgain with
    | true => exact .inr ⟨_, by rw [freeInService_raised kind raised]⟩
    | false => exact .inl (by rw [freeInService_quiet kind raised])
  | none =>
    have external : src.val < 60 := Decidable.byContradiction fun high => by
      simp [internalOf, Nat.not_lt.mp high] at kind
    cases line : lineOf src with
    | some n =>
      rw [freeInService_line line]
      dsimp only
      split
      · exact .inr ⟨_, rfl⟩
      · exact .inl rfl
    | none =>
      have low : 32 ≤ src.val := Decidable.byContradiction fun low => by
        simp [lineOf, Nat.not_le.mp low] at line
      by_cases channel : src.val < 44
      · exact .inl (by rw [freeInService_posted low channel])
      · exact .inl (by rw [freeInService_channel (Nat.not_lt.mp channel) external])

/-- A re-arm occasion that passes without an arrival (R24). -/
theorem followUp_rearm_idle {s : State} {n : Line} (idle : (s.lineActive n && s.outstanding (lineSource n) == 0) = false) :
    followUp (.rearm n) s = s := by
  have idle' : ¬((s.lineActive n && s.outstanding (lineSource n) = 0) = true) := by simpa using idle
  exact if_neg idle'

/-- A follow-up and a raising come in one order or the other; the former, when it is a re-arm occasion without effect, may
as well come first. -/
theorem followUps_pair (s : State) (f : FollowUp) (i : Fin 4) (w0 w1 : Word) :
    ∃ order ∈ [[f, .raise i w0 w1], [.raise i w0 w1, f]], ∃ n,
      s.followUps [f, .raise i w0 w1] = order.foldl (fun t f => followUp f t) { s with choices := n } := by
  obtain ⟨order, perm, n, same⟩ := followUps_order s [f, .raise i w0 w1]
  have both (all : order.Perm [f, .raise i w0 w1]) : order ∈ [[f, .raise i w0 w1], [.raise i w0 w1, f]] := by
    simpa using eq_pair_of_perm all
  cases f with
  | rearm m =>
    cases active : s.lineActive m && s.outstanding (lineSource m) == 0 with
    | true => exact ⟨order, both (by simpa [active] using perm), n, same⟩
    | false =>
      have single : order = [.raise i w0 w1] := by simpa [active] using perm
      refine ⟨_, List.mem_cons_self, n, ?_⟩
      have idle : followUp (.rearm m) { s with choices := n } = { s with choices := n } := followUp_rearm_idle active
      rw [same, single, List.foldl_cons, List.foldl_cons, List.foldl_cons, idle]
  | raise j v0 v1 => exact ⟨order, both (by simpa using perm), n, same⟩
  | arrival x => exact ⟨order, both (by simpa using perm), n, same⟩

/-- Settles O24: by the kind of the source, and for every source by the two orders. -/
theorem expiryRetires : Obligations.ExpiryRetires := by
  unfold Obligations.ExpiryRetires
  intro s a r below running serving due stack timed policy spent kept s1 w0 w1
  have popped : s.expiryPop a r = s1 := expiryPop_of_stack stack
  have retired : exec (.deadlineExpiry a) s =
      .next (((s1.freeInService r.source).1.setFault .retired).followUps
        ((s1.freeInService r.source).2 ++ [.raise 1 w0 w1])) := by
    rw [exec_deadlineExpiry a running, takeExpiry_due serving due stack timed, expire_retire a policy spent, retire_eq,
      popped]
  rw [retired]
  refine ⟨fun low high => ?_, fun low high => ?_, ?_⟩
  · rw [freeInService_posted low high, List.nil_append, followUps_raise]
  · rw [freeInService_channel low high, List.nil_append, followUps_raise]
  · intro freed
    obtain none | ⟨f, one⟩ := freeInService_atMostOne s1 r.source
    · refine ⟨[.raise 1 w0 w1], by simp [freed, none], freed.1.choices, ?_⟩
      rw [none, List.nil_append, followUps_raise]
      rfl
    · obtain ⟨order, mem, n, same⟩ := followUps_pair (freed.1.setFault .retired) f 1 w0 w1
      refine ⟨order, by simpa [freed, one] using mem, n, ?_⟩
      rw [one]
      exact congrArg _ same

end Sys2Proof.Machine
end

section
/-!
PROOF. Words of the common area (O25, O27, O28): how a word adds up from its fields, what each address reads, and what the
writes of the registers do.
-/
namespace Sys2Proof.Machine

/-! ## Reading the common area (R180, R198) -/

theorem toNat_address {n : Nat} (h : n < 256) : (BitVec.ofNat 8 n).toNat = n := by
  simp only [BitVec.toNat_ofNat]
  omega

theorem busRead_table (s : State) {n : Nat} (running : s.inReset = false) (low : 0x80 ≤ n) (high : n < 0xA0) :
    s.busRead (BitVec.ofNat 8 n) = s.readTable n := by
  simp [State.busRead, running, toNat_address (by omega : n < 256), Nat.not_lt.mpr low, high]

theorem busRead_status (s : State) {n : Nat} (running : s.inReset = false) (low : 0xA0 ≤ n) (high : n < 256) :
    s.busRead (BitVec.ofNat 8 n) = s.readStatus n := by
  simp [State.busRead, running, toNat_address high, Nat.not_lt.mpr (by omega : 0x80 ≤ n), Nat.not_lt.mpr low]

/-! ## Words of several fields -/

/-- The number a flag adds at its place. -/
theorem ite_eq_toNat_mul (b : Bool) (n : Nat) : (if b then n else 0) = b.toNat * n := by
  cases b <;> simp

/-- A word of a byte and a number above it. -/
theorem toNat_two_bytes {n m : Nat} (low : n < 256) (high : m < 256) :
    (placed n 0 ||| placed m 8).toNat = n + 256 * m := by
  rw [toNat_or_placed (toNat_placed_zero (by omega)) (by omega) (by omega)]
  omega

/-! ## Bits of a word set one after another (R20, R54) -/

theorem getLsbD_foldl_bitAt {n : Nat} (P : Fin n → Bool) (l : List (Fin n)) (j : Fin 16) (w : Word) :
    (l.foldl (fun w i => w ||| bitAt (P i) i.val) w).getLsbD j.val =
      (w.getLsbD j.val || l.any fun i => P i && decide (i.val = j.val)) := by
  have same : (fun (w : Word) (i : Fin n) => w ||| bitAt (P i) i.val) =
      fun w i => if P i then w ||| (1 : Word) <<< i.val else w := by
    funext w i
    unfold bitAt
    split
    · rfl
    · exact BitVec.or_zero
  rw [same, getLsbD_foldl_set]

theorem getLsbD_pendingMask (s : State) (c : Class) : (s.pendingMask).getLsbD c.val = !(s.queue c).isEmpty := by
  have clear : (0 : Word).getLsbD c.val = false := BitVec.getLsbD_zero
  rw [State.pendingMask, getLsbD_foldl_bitAt (fun c => !(s.queue c).isEmpty), clear, Bool.false_or]
  refine Bool.eq_iff_iff.mpr ⟨fun any => ?_, fun there => ?_⟩
  · obtain ⟨d, -, found⟩ := List.any_eq_true.mp any
    rw [Bool.and_eq_true, decide_eq_true_iff] at found
    obtain ⟨there, same⟩ := found
    rwa [Fin.ext same] at there
  · exact List.any_eq_true.mpr ⟨c, List.mem_finRange c, by rw [there]; simp⟩

/-! ## Entry words (R198) -/

theorem toNat_word1 (e : Entry) :
    e.word1.toNat =
      e.agentSet.toNat + e.link.toNat * 128 + 256 * e.channel.toNat + 4096 * e.fallbackAgent.toNat +
        e.fallbackPresent.toNat * 16384 := by
  have := e.agentSet.isLt
  have := e.channel.isLt
  have := e.fallbackAgent.isLt
  have := Bool.toNat_le e.link
  have := Bool.toNat_le e.fallbackPresent
  have set : (placed e.agentSet.toNat 0).toNat = e.agentSet.toNat := toNat_placed_zero (by omega)
  have link := toNat_or_placed (n := e.link.toNat) (start := 7) set (by omega) (by omega)
  have channel := toNat_or_placed (n := e.channel.toNat) (start := 8) link (by omega) (by omega)
  have agent := toNat_or_placed (n := e.fallbackAgent.toNat) (start := 12) channel (by omega) (by omega)
  rw [Entry.word1, bitAt_eq_placed, bitAt_eq_placed, toNat_or_placed agent (by omega) (by omega)]
  omega

theorem toNat_word2 (e : Entry) :
    e.word2.toNat =
      e.cls.toNat + 16 * e.maxOutstanding.toNat + 256 * e.coalesce.toNat + 1024 * e.deadlineIndex.toNat +
        e.enable.toNat * 32768 := by
  have := e.cls.isLt
  have := e.maxOutstanding.isLt
  have := e.coalesce.isLt
  have := e.deadlineIndex.isLt
  have := Bool.toNat_le e.enable
  have cls : (placed e.cls.toNat 0).toNat = e.cls.toNat := toNat_placed_zero (by omega)
  have outstanding := toNat_or_placed (n := e.maxOutstanding.toNat) (start := 4) cls (by omega) (by omega)
  have coalesce := toNat_or_placed (n := e.coalesce.toNat) (start := 8) outstanding (by omega) (by omega)
  have deadline := toNat_or_placed (n := e.deadlineIndex.toNat) (start := 10) coalesce (by omega) (by omega)
  rw [Entry.word2, bitAt_eq_placed, toNat_or_placed deadline (by omega) (by omega)]
  omega

theorem toNat_word3 (e : Entry) :
    e.word3.toNat =
      e.policy.toNat + 4 * e.retryLimit.toNat + 256 * e.trigger.toNat + 4096 * e.filter.toNat +
        e.capture.toNat * 32768 := by
  have := e.policy.isLt
  have := e.retryLimit.isLt
  have := e.trigger.isLt
  have := e.filter.isLt
  have := Bool.toNat_le e.capture
  have policy : (placed e.policy.toNat 0).toNat = e.policy.toNat := toNat_placed_zero (by omega)
  have limit := toNat_or_placed (n := e.retryLimit.toNat) (start := 2) policy (by omega) (by omega)
  have trigger := toNat_or_placed (n := e.trigger.toNat) (start := 8) limit (by omega) (by omega)
  have filter := toNat_or_placed (n := e.filter.toNat) (start := 12) trigger (by omega) (by omega)
  rw [Entry.word3, bitAt_eq_placed, toNat_or_placed filter (by omega) (by omega)]
  omega

/-! ## The words 0x80 to 0x9F (R108, R109, R198) -/

theorem readTable_staging (s : State) (k : Fin 4) :
    s.readTable (0x81 + k.val) = (s.table.staging[s.table.entrySel]).word k := by
  match k with
  | 0 | 1 | 2 | 3 => rfl

theorem readTable_active (s : State) (k : Fin 4) : s.readTable (0x85 + k.val) = (s.entry s.table.entrySel).word k := by
  match k with
  | 0 | 1 | 2 | 3 => rfl

theorem readTable_stagingDeadlines (s : State) (i : Fin 8) : s.readTable (0x90 + i.val) = s.table.stagingDeadlines[i] := by
  match i with
  | 0 | 1 | 2 | 3 | 4 | 5 | 6 | 7 => rfl

theorem readTable_activeDeadlines (s : State) (i : Fin 8) : s.readTable (0x98 + i.val) = s.table.activeDeadlines[i] := by
  match i with
  | 0 | 1 | 2 | 3 | 4 | 5 | 6 | 7 => rfl

theorem Session.code_lt (x : Session) : x.code < 4 := by
  cases x <;> decide

theorem tableWordsRead {s : State} (running : s.inReset = false) : TableWordsRead s := by
  unfold TableWordsRead
  intro word bit sel
  have read {n : Nat} (low : 0x80 ≤ n) (high : n < 0xA0) : word n = s.readTable n := busRead_table s running low high
  have bit_eq (b : Bool) (n : Nat) : bit b n = b.toNat * n := ite_eq_toNat_mul b n
  simp only [bit_eq]
  refine ⟨?_, fun k => ⟨?_, ?_⟩, fun e => ⟨rfl, toNat_word1 e, toNat_word2 e, toNat_word3 e⟩, ?_, fun i => ⟨?_, ?_⟩⟩
  · rw [read (by decide) (by decide)]
    exact toNat_placed_zero (by omega)
  · rw [read (by omega) (by omega), readTable_staging]
  · rw [read (by omega) (by omega), readTable_active]
  · have code := s.table.session.code_lt
    have frozen := Bool.toNat_le s.table.frozen
    have value : word 0x89 = placed s.table.session.code 0 ||| placed s.table.frozen.toNat 8 := by
      rw [read (by decide) (by decide), ← bitAt_eq_placed]
      rfl
    rw [value, toNat_two_bytes (by omega) (by omega), Nat.mul_comm 256]
    rfl
  · rw [read (by omega) (by omega), readTable_stagingDeadlines]
  · rw [read (by omega) (by omega), readTable_activeDeadlines]

/-! ## The status words (R16, R20, R27, R45, R54, R132, R186, R198, R199) -/

theorem readStatus_hold (s : State) (k : Fin 4) : s.readStatus (0xA0 + k.val) = s.dispatcher.hold[k] := by
  match k with
  | 0 | 1 | 2 | 3 => rfl

theorem readStatus_levels (s : State) (k : Fin 2) : s.readStatus (0xA6 + k.val) = s.levelWord k := by
  match k with
  | 0 | 1 => rfl

/-- Where the record of internal source i is, and its raised-again flag: three of the four bits of its group (R132). -/
def internalField (s : State) (i : Fin 4) : Nat :=
  (if s.pendingRecords.any (·.source == internalSource i) then 1
   else if s.stackedRecords.any (·.source == internalSource i) then 2 else 0) +
    (s.internal i).raisedAgain.toNat * 4

theorem internalField_lt (s : State) (i : Fin 4) : internalField s i < 16 := by
  have := Bool.toNat_le (s.internal i).raisedAgain
  unfold internalField
  split
  · omega
  · split <;> omega

theorem internalGroup_eq (s : State) (i : Fin 4) : s.internalGroup i = placed (internalField s i) (4 * i.val) := by
  have group (place : Fin 3) (b : Bool) :
      placed place.val (4 * i.val) ||| bitAt b (4 * i.val + 2) = placed (place.val + b.toNat * 4) (4 * i.val) := by
    revert i place b
    decide
  unfold State.internalGroup internalField
  dsimp only
  split
  · exact group 1 _
  · split
    · exact group 2 _
    · exact group 0 _

/-- Four groups of four bits, read one by one. -/
theorem toNat_extract_groups {g : Fin 4 → Nat} (small : ∀ i, g i < 16) (i : Fin 4) :
    ((placed (g 0) 0 ||| placed (g 1) 4 ||| placed (g 2) 8 ||| placed (g 3) 12).extractLsb' (4 * i.val) 4).toNat = g i := by
  have h0 := small 0
  have h1 := small 1
  have h2 := small 2
  have h3 := small 3
  have first : (placed (g 0) 0).toNat = g 0 := toNat_placed_zero (by omega)
  have second := toNat_or_placed (n := g 1) (start := 4) first (by omega) (by omega)
  have third := toNat_or_placed (n := g 2) (start := 8) second (by omega) (by omega)
  have fourth := toNat_or_placed (n := g 3) (start := 12) third (by omega) (by omega)
  rw [BitVec.extractLsb'_toNat, fourth, Nat.shiftRight_eq_div_pow]
  match i with
  | 0 => show _ / 2 ^ 0 % 2 ^ 4 = _; omega
  | 1 => show _ / 2 ^ 4 % 2 ^ 4 = _; omega
  | 2 => show _ / 2 ^ 8 % 2 ^ 4 = _; omega
  | 3 => show _ / 2 ^ 12 % 2 ^ 4 = _; omega

/-! ### The numbers of records (R7, R9, R10) -/

theorem length_allocated_le {s : State} (distinct : SlotsDistinct s) : s.allocated.length ≤ 128 := by
  have fits := List.Nodup.length_le_of_subset distinct fun k _ => List.mem_finRange k
  rwa [List.length_map, List.length_finRange] at fits

theorem length_queue_le {s : State} (distinct : SlotsDistinct s) (c : Class) : (s.queue c).length ≤ 128 := by
  have pending : (s.queue c).Sublist s.pendingRecords :=
    List.sublist_flatten_of_mem (List.mem_map_of_mem (mem_classesDown c))
  exact Nat.le_trans (pending.trans (List.sublist_append_left _ _)).length_le (length_allocated_le distinct)

/-- R9: every record belongs to one of the three partitions. -/
theorem heldCount_add (s : State) :
    s.heldCount .general + s.heldCount .linkReserve + s.heldCount .internal = s.allocated.length := by
  unfold State.heldCount
  induction s.allocated with
  | nil => rfl
  | cons r l ih =>
    rw [List.countP_cons, List.countP_cons, List.countP_cons, List.length_cons, ← ih]
    cases partitionOf r.source <;> simp <;> omega

/-- R9, R10: the internal partition holds the records of its four sources. -/
theorem heldCount_internal (s : State) :
    s.heldCount .internal = s.outstanding (internalSource 0) + s.outstanding (internalSource 1) +
      s.outstanding (internalSource 2) + s.outstanding (internalSource 3) := by
  have one : ∀ src : Source, (if partitionOf src == .internal then 1 else 0) =
      (if src == internalSource 0 then 1 else 0) + (if src == internalSource 1 then 1 else 0) +
        (if src == internalSource 2 then 1 else 0) + (if src == internalSource 3 then 1 else 0) := by decide
  unfold State.heldCount State.outstanding
  induction s.allocated with
  | nil => rfl
  | cons r l ih =>
    have split := one r.source
    simp only [List.countP_cons]
    omega

theorem heldCount_internal_le {s : State} (h : PartitionsBounded s) : s.heldCount .internal ≤ 4 := by
  obtain ⟨-, -, -, few⟩ := h
  rw [heldCount_internal]
  have h0 := few 0
  have h1 := few 1
  have h2 := few 2
  have h3 := few 3
  omega

theorem CommandStatus.code_lt (x : CommandStatus) : x.code < 4 := by
  cases x <;> decide

theorem Reason.code_lt (x : Reason) : x.code < 16 := by
  cases x <;> decide

/-- The command status word (R186, R198, R199). -/
theorem toNat_commandWord (s : State) :
    (placed s.command.status.code 0 ||| placed s.command.issuer.val 2 ||| placed s.command.reason.code 4 |||
      placed s.command.code.toNat 8).toNat =
    s.command.status.code + 4 * s.command.issuer.val + 16 * s.command.reason.code + 256 * s.command.code.toNat := by
  have := s.command.status.code_lt
  have := s.command.reason.code_lt
  have := s.command.code.isLt
  have status : (placed s.command.status.code 0).toNat = s.command.status.code := toNat_placed_zero (by omega)
  have issuer := toNat_or_placed (n := s.command.issuer.val) (start := 2) status (by omega) (by omega)
  have reason := toNat_or_placed (n := s.command.reason.code) (start := 4) issuer (by omega) (by omega)
  rw [toNat_or_placed reason (by omega) (by omega)]
  omega

/-- The second word of the queue entry view (R54, R198). -/
theorem toNat_queueEntryWord1 {s : State} {r : EventRecord} (entry : s.queueEntry = some r) :
    s.queueEntryWord1.toNat =
      r.cls.val + (s.held r.source).toNat * 256 + r.escalated.toNat * 512 + r.retarget.isSome.toNat * 1024 +
        r.abandoned.toNat * 2048 := by
  have := Bool.toNat_le (s.held r.source)
  have := Bool.toNat_le r.escalated
  have := Bool.toNat_le r.retarget.isSome
  have := Bool.toNat_le r.abandoned
  have cls : (placed r.cls.val 0).toNat = r.cls.val := toNat_placed_zero (by omega)
  have held := toNat_or_placed (n := (s.held r.source).toNat) (start := 8) cls (by omega) (by omega)
  have escalated := toNat_or_placed (n := r.escalated.toNat) (start := 9) held (by omega) (by omega)
  have retarget := toNat_or_placed (n := r.retarget.isSome.toNat) (start := 10) escalated (by omega) (by omega)
  simp only [State.queueEntryWord1, entry, bitAt_eq_placed]
  refine (toNat_or_placed retarget (by omega) (by omega)).trans ?_
  omega

/-- The held counts word (R9, R198). -/
theorem toNat_heldWord {general link internal : Nat} (h0 : general < 256) (h1 : link < 32) (h2 : internal < 8) :
    (placed general 0 ||| placed link 8 ||| placed internal 13).toNat = general + 256 * link + 8192 * internal := by
  have first : (placed general 0).toNat = general := toNat_placed_zero (by omega)
  have second := toNat_or_placed (n := link) (start := 8) first (by omega) (by omega)
  rw [toNat_or_placed second (by omega) (by omega)]
  omega

theorem statusWordsRead {s : State} (running : s.inReset = false) (distinct : SlotsDistinct s)
    (partitions : PartitionsBounded s) (outstanding : OutstandingBounded s) : StatusWordsRead s := by
  unfold StatusWordsRead
  intro word bit
  have read {n : Nat} (low : 0xA0 ≤ n) (high : n < 256) : word n = s.readStatus n := busRead_status s running low high
  have bit_eq (b : Bool) (n : Nat) : bit b n = b.toNat * n := ite_eq_toNat_mul b n
  have value {n v : Nat} {w : Word} (low : 0xA0 ≤ n) (high : n < 256) (shows : s.readStatus n = w) (number : w.toNat = v) :
      (word n).toNat = v := by rw [read low high, shows, number]
  have internal := heldCount_internal_le partitions
  obtain ⟨reserve, general, link, -⟩ := partitions
  have sum := heldCount_add s
  have all := length_allocated_le distinct
  simp only [bit_eq]
  refine ⟨fun src => ?_, fun i => ?_, fun n => ?_, ?_, ?_, ?_, ?_, fun c => ?_, ?_, fun r entry => ⟨?_, ?_⟩,
    fun unused => ⟨?_, ?_⟩,
    ?_, ?_, ?_, ?_, ?_, ?_, ?_, ?_, ?_⟩
  · rw [read (by omega) (by omega)]
    exact congrArg (·.getLsbD (src.val % 16)) (readStatus_hold s ⟨src.val / 16, by omega⟩)
  · have groups : word 0xA5 =
        placed (internalField s 0) 0 ||| placed (internalField s 1) 4 ||| placed (internalField s 2) 8 |||
          placed (internalField s 3) 12 := by
      rw [read (by decide) (by decide)]
      change s.internalGroup 0 ||| s.internalGroup 1 ||| s.internalGroup 2 ||| s.internalGroup 3 = _
      simp only [internalGroup_eq]
      rfl
    rw [groups, toNat_extract_groups (internalField_lt s)]
    rfl
  · have levels : word (0xA6 + n.val / 16) = s.levelWord ⟨n.val / 16, by omega⟩ :=
      (read (by omega) (by omega)).trans (readStatus_levels s ⟨n.val / 16, by omega⟩)
    rw [levels, getLsbD_levelWord s ⟨n.val / 16, by omega⟩ ⟨n.val % 16, by omega⟩]
    congr 2
    exact Fin.ext (by dsimp only; omega)
  · exact value (by decide) (by decide) rfl (toNat_placed_zero (by omega))
  · exact value (by decide) (by decide) rfl
      (toNat_two_bytes (by have := outstanding s.pool.srcSel; omega) (BitVec.isLt _))
  · exact value (by decide) (by decide) rfl (toNat_placed_zero (by omega))
  · exact value (by decide) (by decide) rfl (toNat_two_bytes (by omega) (by omega))
  · rw [read (by decide) (by decide)]
    change (s.pendingMask).getLsbD c.val = true ↔ _
    rw [getLsbD_pendingMask]
    simp
  · have := length_queue_le distinct s.dispatcher.qselClass
    exact value (by decide) (by decide) rfl (toNat_placed_zero (by omega))
  · have shows : s.queueEntryWord0 = pairWord r.pair := by simp only [State.queueEntryWord0, State.queueEntry, entry]
    exact value (by decide) (by decide) shows (toNat_pairWord r.pair)
  · exact value (by decide) (by decide) rfl (toNat_queueEntryWord1 entry)
  · have empty : s.queueEntry = none := List.getElem?_eq_none unused
    rw [read (by decide) (by decide)]
    change s.queueEntryWord0 = _
    simp only [State.queueEntryWord0, empty]
  · have empty : s.queueEntry = none := List.getElem?_eq_none unused
    rw [read (by decide) (by decide)]
    change s.queueEntryWord1 = _
    simp only [State.queueEntryWord1, empty]
  · rw [sum]
    exact value (by decide) (by decide) rfl (toNat_two_bytes (by unfold State.freeCount; omega) (by omega))
  · exact value (by decide) (by decide) rfl (toNat_heldWord (by omega) (by omega) (by omega))
  · exact value (by decide) (by decide) rfl (toNat_placed_zero (by omega))
  · exact read (by decide) (by decide)
  · exact read (by decide) (by decide)
  · exact value (by decide) (by decide) rfl (toNat_placed_zero (by omega))
  · exact value (n := 0xB8) (by decide) (by decide) rfl (toNat_commandWord s)
  · exact value (by decide) (by decide) rfl (toNat_placed_zero (by omega))
  · exact read (by decide) (by decide)

/-! ## The link's words (R140, R157, R162, R178, R198) -/

theorem LinkState.code_lt (x : LinkState) : x.code < 4 := by
  cases x <;> decide

theorem DownCause.code_lt (x : DownCause) : x.code < 4 := by
  cases x <;> decide

/-- The link state word. -/
theorem toNat_linkWord (s : State) :
    (placed s.link.state.code 0 ||| placed s.link.downCause.code 2 ||| placed s.link.attempts.val 4 |||
      placed s.link.session.toNat 8).toNat =
    s.link.state.code + 4 * s.link.downCause.code + 16 * s.link.attempts.val + 256 * s.link.session.toNat := by
  have := s.link.state.code_lt
  have := s.link.downCause.code_lt
  have := s.link.session.isLt
  have state : (placed s.link.state.code 0).toNat = s.link.state.code := toNat_placed_zero (by omega)
  have cause := toNat_or_placed (n := s.link.downCause.code) (start := 2) state (by omega) (by omega)
  have attempts := toNat_or_placed (n := s.link.attempts.val) (start := 4) cause (by omega) (by omega)
  rw [toNat_or_placed attempts (by omega) (by omega)]
  omega

theorem isRunning_eq (x : LinkTimer) : x.isRunning = !decide (x = .stopped) := by
  cases x <;> rfl

/-- The Transmitter's word. -/
theorem toNat_transmitterWord {t : Transmitter} (length : t.queue.length ≤ 16) (few : t.sent ≤ 4) :
    (placed t.queue.length 0 ||| placed t.sent 8 ||| bitAt t.timer.isRunning 11 ||| placed t.retry.val 12).toNat =
      t.queue.length + 256 * t.sent + (if t.timer = .stopped then 0 else 2048) + 4096 * t.retry.val := by
  have running := Bool.toNat_le t.timer.isRunning
  have queue : (placed t.queue.length 0).toNat = t.queue.length := toNat_placed_zero (by omega)
  have sent := toNat_or_placed (n := t.sent) (start := 8) queue (by omega) (by omega)
  have timer := toNat_or_placed (n := t.timer.isRunning.toNat) (start := 11) sent (by omega) (by omega)
  have bit : (if t.timer = .stopped then 0 else 2048) = t.timer.isRunning.toNat * 2048 := by
    rw [isRunning_eq]
    by_cases stopped : t.timer = .stopped <;> simp [stopped]
  rw [bitAt_eq_placed, toNat_or_placed timer (by omega) (by omega), bit]
  omega

theorem linkWordsRead {s : State} (running : s.inReset = false) (window : ForwardWindow s) : LinkWordsRead s := by
  unfold LinkWordsRead
  intro word difference
  have read {n : Nat} (low : 0xA0 ≤ n) (high : n < 256) : word n = s.readStatus n := busRead_status s running low high
  have value {n v : Nat} {w : Word} (low : 0xA0 ≤ n) (high : n < 256) (shows : s.readStatus n = w) (number : w.toNat = v) :
      (word n).toNat = v := by rw [read low high, shows, number]
  obtain ⟨length, few, -⟩ := window
  have credit : s.credit < 256 := by
    unfold State.credit
    dsimp only
    split <;> omega
  refine ⟨?_, read (by decide) (by decide), ?_, ?_, ?_, ?_, ?_, ?_, ?_⟩
  · exact value (by decide) (by decide) rfl (toNat_placed_zero (by omega))
  · exact value (by decide) (by decide) rfl (toNat_placed_zero (by omega))
  · exact value (n := 0xC4) (by decide) (by decide) rfl (toNat_linkWord s)
  · exact value (by decide) (by decide) rfl (toNat_two_bytes (BitVec.isLt _) (BitVec.isLt _))
  · exact value (n := 0xC6) (by decide) (by decide) rfl (toNat_two_bytes (BitVec.isLt _) credit)
  · exact value (by decide) (by decide) rfl (toNat_two_bytes (BitVec.isLt _) (BitVec.isLt _))
  · exact value (n := 0xC8) (by decide) (by decide) rfl (toNat_transmitterWord length few)
  · exact value (by decide) (by decide) rfl (toNat_two_bytes (BitVec.isLt _) (BitVec.isLt _))

/-! ## Addresses that name no word to read (R181) -/

theorem readPage_unnamed (s : State) (a : Agent) {off : Nat}
    (unnamed : off ∈ ([0x01, 0x02, 0x17, 0x18, 0x19, 0x1C, 0x1D, 0x1E, 0x1F] : List Nat)) : s.readPage a off = 0 := by
  simp only [List.mem_cons, List.not_mem_nil, or_false] at unnamed
  obtain rfl | rfl | rfl | rfl | rfl | rfl | rfl | rfl | rfl := unnamed <;> rfl

theorem readTable_unnamed (s : State) {n : Nat} (low : 0x8A ≤ n) (high : n ≤ 0x8F) : s.readTable n = 0 := by
  unfold State.readTable
  dsimp only
  split
  iterate 10 omega
  rw [dif_neg (by omega), dif_neg (by omega)]

theorem readStatus_unnamed (s : State) {n : Nat}
    (unnamed : n = 0xB2 ∨ (0xBB ≤ n ∧ n ≤ 0xBF) ∨ n = 0xC3 ∨ (0xCA ≤ n ∧ n ≤ 0xFF)) : s.readStatus n = 0 := by
  have outside : ¬(0xC4 ≤ n ∧ n ≤ 0xC9) := by omega
  unfold State.readStatus
  split
  iterate 29 omega
  rw [if_neg outside]

theorem busRead_unnamed (s : State) {n : Nat}
    (unnamed : (n < 0x80 ∧ n % 32 ∈ ([0x01, 0x02, 0x17, 0x18, 0x19, 0x1C, 0x1D, 0x1E, 0x1F] : List Nat)) ∨
      (0x8A ≤ n ∧ n ≤ 0x8F) ∨ n = 0xB2 ∨ (0xBB ≤ n ∧ n ≤ 0xBF) ∨ n = 0xC3 ∨ (0xCA ≤ n ∧ n ≤ 0xFF)) :
    s.busRead (BitVec.ofNat 8 n) = 0 := by
  cases running : s.inReset with
  | true => simp [State.busRead, running]
  | false =>
    obtain ⟨low, off⟩ | ⟨low, high⟩ | rest := unnamed
    · have page := busRead_page s (⟨n / 32, by omega⟩ : Agent) (off := n % 32) running (by omega)
      rw [show 32 * (n / 32) + n % 32 = n by omega] at page
      rw [page, readPage_unnamed s _ off]
    · rw [busRead_table s running (by omega) (by omega), readTable_unnamed s low high]
    · rw [busRead_status s running (by omega) (by omega), readStatus_unnamed s rest]

/-! ## Writes (R16, R27, R45, R54, R108, R181, R200) -/

theorem exec_holdWrite {s : State} (k : Fin 4) (w : Word) (running : s.inReset = false) :
    exec (.holdWrite k w) s = .next (s.writeHold k w) :=
  whileRunning_running s (fun s => s.writeHold k w) running

theorem exec_registerWrite {s : State} (address : Byte) (w : Word) (running : s.inReset = false) :
    exec (.registerWrite address w) s = .next (s.busWrite address w) :=
  whileRunning_running s (fun s => s.busWrite address w) running

theorem held_writeHold (s : State) (k : Fin 4) (w : Word) (src : Source) :
    (s.writeHold k w).held src = if src.val / 16 = k.val then w.getLsbD (src.val % 16) else s.held src := by
  simp only [State.held, State.writeHold, Vector.getElem_set, eq_comm (a := k.val)]
  split <;> rfl

theorem writePage_unnamed (s : State) (a : Agent) {off : Nat} (w : Word)
    (unnamed : off ∉ ([0x01, 0x02, 0x03, 0x04, 0x18] : List Nat)) : s.writePage a off w = s := by
  unfold State.writePage
  split
  iterate 5 simp at unnamed
  rfl

/-- An address of the common area that has no row of its own and stores no field. -/
theorem writeCommon_unnamed (s : State) {n : Nat} (w : Word) (entry : ¬(0x81 ≤ n ∧ n ≤ 0x84))
    (deadline : ¬(0x90 ≤ n ∧ n ≤ 0x97)) (hold : ¬(0xA0 ≤ n ∧ n ≤ 0xA4))
    (other : n ∉ ([0xB3, 0xB4, 0xC0, 0xC1, 0xC2] : List Nat))
    (selector : n ∉ ([0x80, 0xA8, 0xAB, 0xB5, 0xB6, 0xB7] : List Nat)) : s.writeCommon n w = s := by
  unfold State.writeCommon
  split
  iterate 4 omega
  iterate 8 omega
  iterate 5 omega
  iterate 5 simp at other
  unfold State.writeSelector
  split
  iterate 6 simp at selector
  rfl

theorem busWrite_unnamed (s : State) {address : Byte} (w : Word) (noRow : hasOwnRow address = false)
    (noField : address ∉ ([0x80, 0xA8, 0xAB, 0xB5, 0xB6, 0xB7] : List Byte)) : s.busWrite address w = s := by
  unfold hasOwnRow at noRow
  unfold State.busWrite
  split at noRow
  · next low =>
    rw [dif_pos low]
    exact writePage_unnamed s _ w (of_decide_eq_false noRow)
  · next high =>
    rw [dif_neg high]
    simp only [Bool.or_eq_false_iff, decide_eq_false_iff_not] at noRow
    obtain ⟨⟨⟨entry, deadline⟩, hold⟩, other⟩ := noRow
    refine writeCommon_unnamed s w entry deadline hold other fun mem => noField ?_
    have named (n : Nat) (lt : n < 256) (eq : address.toNat = n) : address = BitVec.ofNat 8 n := by
      rw [← eq, BitVec.ofNat_toNat, BitVec.setWidth_eq]
    simp only [List.mem_cons, List.not_mem_nil, or_false] at mem ⊢
    exact mem.imp (named _ (by decide)) fun mem => mem.imp (named _ (by decide)) fun mem =>
      mem.imp (named _ (by decide)) fun mem => mem.imp (named _ (by decide)) fun mem =>
        mem.imp (named _ (by decide)) (named _ (by decide))

/-- Settles O25: each write by the function it is, each word by its fields. -/
theorem plainRegisterWrites : Obligations.PlainRegisterWrites := by
  unfold Obligations.PlainRegisterWrites
  refine ⟨fun s k w running => ?_, fun s w running => ?_, fun s running distinct partitions outstanding window => ?_,
    fun s n => busRead_unnamed s⟩
  · refine ⟨s.writeHold k w, exec_holdWrite k w running, rfl, ?_, held_writeHold s k w⟩
    rw [busRead_status (s.writeHold k w) running (by omega) (by omega), readStatus_hold]
    exact Vector.getElem_set_self k.isLt
  · refine ⟨?_, ?_, ?_, ?_, ?_, ?_, fun address noRow noField => ?_⟩
    iterate 6 exact exec_registerWrite _ w running
    rw [exec_registerWrite address w running, busWrite_unnamed s w noRow noField]
  · exact ⟨tableWordsRead running, statusWordsRead running distinct partitions outstanding, linkWordsRead running window⟩

/-! ## Registers that refuse values (R13, R136, R140, R177, R200; O27) -/

theorem reserveFits_iff (s : State) (v : Byte) :
    s.reserveFits v = true ↔
      v.toNat ≤ 16 ∧ s.heldCount .linkReserve ≤ v.toNat ∧ s.heldCount .general ≤ 124 - v.toNat := by
  rw [State.reserveFits, Bool.and_eq_true, Bool.and_eq_true, decide_eq_true_iff, decide_eq_true_iff, decide_eq_true_iff,
    and_assoc]
  rfl

theorem writeLinkReserve_eq (s : State) (w : Word) :
    s.writeLinkReserve w =
      if s.link.state = .stopped ∧ s.reserveFits (lowByte w) = true then
        { s with pool := { s.pool with linkReserve := lowByte w } }
      else (s.setFault .reserveRefused).raise 3 4 ((lowByte w).setWidth 16) := by
  simp only [State.writeLinkReserve, Bool.and_eq_true, beq_iff_eq]
  rfl

theorem writeLinkDiv_of_iff {s : State} {w : Word} {P : Prop} [Decidable P]
    (test : P ↔ (s.link.state = .stopped ∨ s.link.state = .down) ∧ 3 ≤ (lowByte w).toNat) :
    s.writeLinkDiv w = if P then { s with params := { s.params with div := lowByte w } } else s := by
  have test' : ((s.link.state == .stopped || s.link.state == .down) && decide (3 ≤ (lowByte w).toNat)) = true ↔ P := by
    simp [test]
  by_cases h : P
  · rw [if_pos h]; exact if_pos (test'.mpr h)
  · rw [if_neg h]; exact if_neg (mt test'.mp h)

/-- Settles O27: each write by its test. -/
theorem linkRegisterWrites : Obligations.LinkRegisterWrites := by
  unfold Obligations.LinkRegisterWrites
  refine ⟨fun s w running => ?_, fun s w running => ?_⟩
  · intro v fits
    have same : fits ↔ s.link.state = .stopped ∧ s.reserveFits (lowByte w) = true := by rw [reserveFits_iff]; rfl
    have written : exec (.linkReserveWrite w) s = .next (s.writeLinkReserve w) :=
      whileRunning_running s (fun s => s.writeLinkReserve w) running
    rw [written, writeLinkReserve_eq]
    exact ⟨fun h => by rw [if_pos (same.mp h)]; rfl, fun h => by rw [if_neg (mt same.mpr h)]; rfl⟩
  · intro v
    have div : exec (.linkDivWrite w) s = .next (s.writeLinkDiv w) :=
      whileRunning_running s (fun s => s.writeLinkDiv w) running
    have timeout : exec (.linkTimeoutWrite w) s = .next (s.writeLinkTimeout w) :=
      whileRunning_running s (fun s => s.writeLinkTimeout w) running
    have retries : exec (.linkRetriesWrite w) s = .next (s.writeLinkRetries w) :=
      whileRunning_running s (fun s => s.writeLinkRetries w) running
    refine ⟨?_, ?_, ?_⟩
    · rw [div, writeLinkDiv_of_iff .rfl, apply_ite Host.Outcome.next]
      rfl
    · rw [timeout, State.writeLinkTimeout, apply_ite Host.Outcome.next]
    · rw [retries, State.writeLinkRetries, apply_ite Host.Outcome.next]
      rfl

/-! ## Staging writes (R109, R110, R200; O28) -/

theorem getLsbD_placed_field (w : Word) {start len : Nat} {i : Nat} (bound : i < 16) :
    (placed (field w start len).toNat start).getLsbD i = (decide (start ≤ i ∧ i < start + len) && w.getLsbD i) := by
  have value : BitVec.ofNat 16 (field w start len).toNat = (field w start len).setWidth 16 := BitVec.ofNat_toNat 16 _
  rw [placed, value, BitVec.getLsbD_shiftLeft, BitVec.getLsbD_setWidth, field, BitVec.getLsbD_extractLsb']
  by_cases inside : start ≤ i
  · have place : start + (i - start) = i := by omega
    have below : i - start < 16 := by omega
    have width : i - start < len ↔ i < start + len := by omega
    simp [inside, place, below, width, bound]
  · simp [inside, Nat.lt_of_not_le inside]

theorem getLsbD_bitAt_flag (w : Word) {start i : Nat} (bound : i < 16) :
    (bitAt (flagAt w start) start).getLsbD i = (decide (i = start) && w.getLsbD i) := by
  unfold bitAt flagAt
  have single : ((1 : Word) <<< start).getLsbD i = decide (i = start) := by
    change ((1#16) <<< start).getLsbD i = _
    rw [← BitVec.twoPow_eq, BitVec.getLsbD_twoPow]
    exact Bool.eq_iff_iff.mpr (by simp; omega)
  split
  · next set =>
    rw [single]
    by_cases here : i = start
    · rw [here, set, Bool.and_true]
    · simp only [here, decide_false, Bool.false_and]
  · next clear =>
    by_cases here : i = start
    · simp [here, clear]
    · simp [here]

/-- A word put together from fields of w is w at the fields' places. -/
theorem eq_and_of_bits {v w mask : Word} {inside : Nat → Bool}
    (bits : ∀ i, i < 16 → v.getLsbD i = (inside i && w.getLsbD i)) (places : ∀ i : Fin 16, inside i.val = mask.getLsbD i.val) :
    v = w &&& mask := by
  refine BitVec.eq_of_getLsbD_eq fun i bound => ?_
  rw [bits i bound, BitVec.getLsbD_and, ← places ⟨i, bound⟩, Bool.and_comm]

theorem word1_withWord (e : Entry) (w : Word) : (e.withWord 1 w).word1 = w &&& 0x7F8F := by
  refine eq_and_of_bits (inside := fun i => decide (0 ≤ i ∧ i < 0 + 4) || decide (i = 7) || decide (8 ≤ i ∧ i < 8 + 4) ||
    decide (12 ≤ i ∧ i < 12 + 2) || decide (i = 14)) (fun i bound => ?_) (by decide)
  simp only [Entry.word1, Entry.withWord, BitVec.getLsbD_or, getLsbD_placed_field w bound, getLsbD_bitAt_flag w bound,
    Bool.and_or_distrib_right]

theorem word2_withWord (e : Entry) (w : Word) : (e.withWord 2 w).word2 = w &&& 0x9FFF := by
  refine eq_and_of_bits (inside := fun i => decide (0 ≤ i ∧ i < 0 + 4) || decide (4 ≤ i ∧ i < 4 + 4) ||
    decide (8 ≤ i ∧ i < 8 + 2) || decide (10 ≤ i ∧ i < 10 + 3) || decide (i = 15)) (fun i bound => ?_) (by decide)
  simp only [Entry.word2, Entry.withWord, BitVec.getLsbD_or, getLsbD_placed_field w bound, getLsbD_bitAt_flag w bound,
    Bool.and_or_distrib_right]

theorem word3_withWord (e : Entry) (w : Word) : (e.withWord 3 w).word3 = w &&& 0xF71F := by
  refine eq_and_of_bits (inside := fun i => decide (0 ≤ i ∧ i < 0 + 2) || decide (2 ≤ i ∧ i < 2 + 3) ||
    decide (8 ≤ i ∧ i < 8 + 3) || decide (12 ≤ i ∧ i < 12 + 3) || decide (i = 15)) (fun i bound => ?_) (by decide)
  simp only [Entry.word3, Entry.withWord, BitVec.getLsbD_or, getLsbD_placed_field w bound, getLsbD_bitAt_flag w bound,
    Bool.and_or_distrib_right]

/-- A write of one word leaves the other words' fields. -/
theorem word_withWord_ne (e : Entry) {k j : Fin 4} (w : Word) (other : j ≠ k) : (e.withWord k w).word j = e.word j := by
  match k, j with
  | 0, 0 | 1, 1 | 2, 2 | 3, 3 => exact absurd rfl other
  | 0, 1 | 0, 2 | 0, 3 | 1, 0 | 1, 2 | 1, 3 | 2, 0 | 2, 1 | 2, 3 | 3, 0 | 3, 1 | 3, 2 => rfl

theorem exec_stagingEntryWrite {s : State} (k : Fin 4) (w : Word) (running : s.inReset = false) :
    exec (.stagingEntryWrite k w) s = .next (s.writeStagingEntry k w) :=
  whileRunning_running s (fun s => s.writeStagingEntry k w) running

theorem exec_stagingDeadlineWrite {s : State} (i : Fin 8) (w : Word) (running : s.inReset = false) :
    exec (.stagingDeadlineWrite i w) s = .next (s.writeStagingDeadline i w) :=
  whileRunning_running s (fun s => s.writeStagingDeadline i w) running

/-- Settles O28: taken while a session is open, with each word read back at the places of its fields; else reported. -/
theorem stagingWriteResults : Obligations.StagingWriteResults := by
  unfold Obligations.StagingWriteResults
  intro s k i w running sel
  rw [exec_stagingEntryWrite k w running, exec_stagingDeadlineWrite i w running, State.writeStagingEntry,
    State.writeStagingDeadline]
  refine ⟨fun opened => ⟨⟨(s.table.staging[sel]).withWord k w, ?_, fun j => word_withWord_ne _ w, ?_, ?_, ?_, ?_⟩, ?_⟩,
    fun closed => ⟨?_, ?_⟩⟩
  · rw [if_pos opened]
  · rintro rfl; rfl
  · rintro rfl; exact word1_withWord _ w
  · rintro rfl; exact word2_withWord _ w
  · rintro rfl; exact word3_withWord _ w
  · rw [if_pos opened]
  · rw [if_neg closed]; rfl
  · rw [if_neg closed]; rfl

/-! ## Commands not taken (R187, R190; O29) -/

theorem commandOf_eq_none {code : Byte} (unnamed : code.toNat = 0 ∨ 11 ≤ code.toNat) : commandOf code = none := by
  unfold commandOf
  split
  iterate 10 omega
  rfl

/-- Settles O29: each command is written through `takeCommand`; a code that names none is refused. -/
theorem commandsNotTaken : Obligations.CommandsNotTaken := by
  unfold Obligations.CommandsNotTaken
  refine ⟨fun s page operand code running walking => ?_, fun s page code operand running idle unnamed => ?_⟩
  · intro overrun
    have taken (n : Byte) (carry : State → State) :
        whileRunning s (fun s => s.takeCommand n carry) = .next ((s.setFault .cmdOverrun).raise 3 3 (n.setWidth 16)) :=
      whileRunning_takeCommand_walking n carry running walking
    exact ⟨taken 1 _, taken 2 _, taken 3 _, taken 4 _, taken 5 _, taken 6 _, taken 7 _, taken 8 _, taken 9 _, taken 10 _,
      taken code _⟩
  · have written : exec (.badCommand page code operand) s = .next (s.writeCommand page code operand) :=
      whileRunning_running s (fun s => s.writeCommand page code operand) running
    rw [written, State.writeCommand, takeCommand_idle _ _ idle, commandOf_eq_none unnamed]
    rfl

end Sys2Proof.Machine
end

section
/-!
PROOF. Steps, ticks, reset and the Line Inputs (O1, O2, O4 to O8).
-/
namespace Sys2Proof.Machine

/-! ## The step (R125; O1, O2) -/

theorem step_cons {s : State} {c : Instr} {rest : List Instr} (pending : s.pending = c :: rest) :
    step s = exec c { s with pending := rest } := by
  rw [step, pending]

theorem step_nil {s : State} (pending : s.pending = []) : step s = .next s.clk := by
  rw [step, pending]

theorem exec_tick {s : State} (running : s.inReset = false) : exec .tick s = .next s.doTick :=
  whileRunning_running s State.doTick running

/-- Settles O1: the definition of a step on a queue that is not empty. -/
theorem stepRunsFrontCommand : Obligations.StepRunsFrontCommand := by
  unfold Obligations.StepRunsFrontCommand
  exact fun s c rest => step_cons

/-- Settles O2: a CLK cycle by the prescaler's count. -/
theorem emptyQueueStepIsOneClkCycle : Obligations.EmptyQueueStepIsOneClkCycle := by
  unfold Obligations.EmptyQueueStepIsOneClkCycle
  intro s empty
  rw [step_nil empty]
  refine ⟨fun reset => by simp [State.clk, reset], fun running counting => ?_, fun running full => ?_⟩
  · simp [State.clk, running, Nat.not_le.mpr counting]
  · rw [exec_tick running]
    simp [State.clk, running, full]

/-! ## What RESET_N is does not change by itself (R184) -/

@[simp] theorem inReset_raise (s : State) (i : Fin 4) (w0 w1 : Word) : (s.raise i w0 w1).inReset = s.inReset := by
  obtain ⟨_, _, _, same⟩ := raise_eq s i w0 w1
  rw [same]

@[simp] theorem inReset_followUps (s : State) (fs : List FollowUp) : (s.followUps fs).inReset = s.inReset := by
  obtain ⟨_, _, _, _, _, _, same⟩ := followUps_eq s fs
  rw [same]

@[simp] theorem inReset_handBack (s : State) (r : EventRecord) : (s.handBack r).inReset = s.inReset := by
  obtain ⟨_, -, -, -, _, same⟩ := handBack_eq s r
  rw [same]
  rfl

@[simp] theorem inReset_freeInService (s : State) (src : Source) : (s.freeInService src).1.inReset = s.inReset := by
  obtain ⟨_, _, _, same⟩ := freeInService_eq s src
  rw [same]

@[simp] theorem inReset_takeCandidate (s : State) (n : Line) : (s.takeCandidate n).inReset = s.inReset := by
  obtain ⟨_, _, _, _, _, _, same⟩ := takeCandidate_eq s n
  rw [same]

@[simp] theorem inReset_divertAll (q : List Forwarded) (s : State) :
    (q.foldl State.divertOrLose s).inReset = s.inReset := by
  induction q generalizing s with
  | nil => rfl
  | cons f q ih =>
    obtain ⟨_, _, same⟩ := divertOrLose_eq s f
    rw [List.foldl_cons, ih, same]

@[simp] theorem inReset_enterDown (s : State) (cause : DownCause) : (s.enterDown cause).inReset = s.inReset := by
  simp [State.enterDown]

@[simp] theorem inReset_expire (s : State) (a : Agent) (r : EventRecord) : (s.expire a r).inReset = s.inReset := by
  have retire : (s.retire a r).inReset = s.inReset := by simp [State.retire, State.expiryPop]
  unfold State.expire
  split
  · unfold State.noteTop
    dsimp only
    split <;> simp
  · split
    · exact retire
    · simp [State.returnTop, State.expiryPop]
  · split
    · exact retire
    · simp [State.escalateTop, State.expiryPop]

theorem inReset_takeDue (e : DueEvent) (s : State) : (takeDue e s).inReset = s.inReset := by
  cases e with
  | candidate n => exact inReset_takeCandidate s n
  | expiry a =>
    unfold takeDue State.takeExpiry
    dsimp only
    split
    · split
      · rfl
      · exact inReset_expire s a _
    · rfl
  | helloInterval =>
    unfold takeDue State.helloExpiry
    dsimp only
    split
    · split
      · rfl
      · exact inReset_enterDown s _
    · rfl
  | ackTimer =>
    unfold takeDue State.ackExpiry
    dsimp only
    split
    · split
      · exact inReset_enterDown _ _
      · rfl
    · rfl

/-! ## A tick (R125 to R127; O6) -/

theorem line_tickLines (s : State) (n : Line) : s.tickLines.line n = (s.line n).ticked (s.filterLength n) :=
  Vector.getElem_ofFn n.isLt

theorem port_deliverTick (s : State) (a : Agent) : s.deliverTick.port a = (s.port a).ticked := by
  have (ps : Vector Port 4) : (ps.map Port.ticked)[a] = ps[a].ticked := by
    rw [Fin.getElem_fin, Vector.getElem_map]
    rfl
  exact this s.ports

/-- A tick changes the lines, the ports, the Timebase and the link's two timers (R127). -/
theorem deliverTick_eq (s : State) :
    ∃ lines, s.tickLines.lines = lines ∧ s.deliverTick =
      { s with
        timebase := s.timebase.ticked, lines := lines, ports := s.ports.map Port.ticked
        link := { s.link with timer := s.link.timer.ticked }
        transmitter := { s.transmitter with timer := s.transmitter.timer.ticked } } := by
  obtain ⟨lines, tick⟩ : ∃ lines, s.tickLines = { s with lines := lines } := ⟨_, rfl⟩
  refine ⟨lines, by rw [tick], ?_⟩
  unfold State.deliverTick
  rw [tick]

theorem line_deliverTick (s : State) (n : Line) : s.deliverTick.line n = (s.line n).ticked (s.filterLength n) := by
  obtain ⟨lines, tick, same⟩ := deliverTick_eq s
  rw [same, ← line_tickLines, State.line, State.line, tick]

theorem ticked_of_candidate {l : LineInput} {c : Candidate} (f : Nat) (candidate : l.candidate = some c) :
    l.ticked f =
      if l.pin = c.level then
        { l with candidate := some { c with count := satFin c.count, due := decide (f ≤ (satFin c.count).val) } }
      else l := by
  simp [LineInput.ticked, candidate]

theorem ticked_of_no_candidate {l : LineInput} (f : Nat) (candidate : l.candidate = none) : l.ticked f = l := by
  simp [LineInput.ticked, candidate]

theorem ticked_stopped {p : Port} (stopped : p.timerRunning = false) : p.ticked = p := by
  unfold Port.timerRunning at stopped
  unfold Port.ticked
  split
  · rfl
  · next r rest stack =>
    simp only [stack] at stopped
    split
    · rfl
    · next serving =>
      split
      · rfl
      · next n time => simp [time, serving] at stopped

theorem ticked_running {p : Port} {r : EventRecord} {rest : List EventRecord} {n : Word} (serving : p.state ≠ .draining)
    (stack : p.stack = r :: rest) (time : r.remaining = some n) :
    p.ticked =
      if n.toNat ≤ 1 then { p with tickDue := true }
      else { p with stack := { r with remaining := some (n - 1) } :: rest } := by
  simp [Port.ticked, stack, serving, time]

theorem tickedFrom_deliverTick (s : State) : TickedFrom s s.deliverTick := by
  have whole : ∃ lines, s.deliverTick =
      { s with
        timebase := s.timebase.ticked, lines := lines, ports := s.ports.map Port.ticked
        link := { s.link with timer := s.link.timer.ticked }
        transmitter := { s.transmitter with timer := s.transmitter.timer.ticked } } := by
    obtain ⟨lines, -, same⟩ := deliverTick_eq s
    exact ⟨lines, same⟩
  refine ⟨?_, fun n none => ?_, fun n c some => ?_, fun a stopped => ?_, fun a r rest n serving stack time => ?_, rfl, rfl,
    rfl, fun n => ?_⟩
  · obtain ⟨lines, same⟩ := whole
    rw [same]
    rfl
  · rw [line_deliverTick, ticked_of_no_candidate _ none]
  · rw [line_deliverTick, ticked_of_candidate _ some]
  · rw [port_deliverTick, ticked_stopped stopped]
  · rw [port_deliverTick, ticked_running serving stack time]
  · unfold LinkTimer.ticked
    rfl

/-- The command that takes a due event. -/
def DueEvent.command : DueEvent → Instr
  | .candidate n => .candidateStable n
  | .expiry a => .deadlineExpiry a
  | .helloInterval => .helloIntervalExpiry
  | .ackTimer => .ackTimerExpiry

theorem exec_dueEvent {s : State} (e : DueEvent) (running : s.inReset = false) :
    exec e.command s = .next (takeDue e s) := by
  cases e with
  | candidate n => exact whileRunning_running s (fun s => s.takeCandidate n) running
  | expiry a => exact whileRunning_running s (fun s => s.takeExpiry a) running
  | helloInterval => exact whileRunning_running s State.helloExpiry running
  | ackTimer => exact whileRunning_running s State.ackExpiry running

/-- Events taken one after another are their commands carried out. -/
theorem carriedOut_of_runInOrder {order : List DueEvent} {s t : State} (running : s.inReset = false)
    (h : RunInOrder takeDue order s t) : CarriedOut (order.map DueEvent.command) s t := by
  induction order generalizing s with
  | nil => exact h
  | cons e order ih =>
    obtain ⟨n, h⟩ := h
    refine ⟨n, takeDue e { s with choices := n }, exec_dueEvent e running, ih ?_ h⟩
    rw [inReset_takeDue]
    exact running

theorem isDue_eq (l : LineInput) : l.isDue = l.candidate.any (·.due) := by
  unfold LineInput.isDue
  cases l.candidate <;> rfl

theorem dueLines_eq (s : State) : s.dueLines = linesWithDueCandidate s := by
  unfold State.dueLines linesWithDueCandidate
  simp only [isDue_eq]

/-- Settles O6: the due events are taken in some order, as their commands take them, and the tick is delivered. -/
theorem tickResult : Obligations.TickResult := by
  unfold Obligations.TickResult
  refine ⟨fun s running none => ?_, fun s running => ?_⟩
  · refine ⟨s.deliverTick, ?_, tickedFrom_deliverTick s⟩
    rw [exec_tick running, State.doTick, State.settle, none]
    rfl
  · intro due
    obtain ⟨order, perm, run⟩ := settle_order s takeDue s.dueEvents
    refine ⟨order.map DueEvent.command, ?_, _, carriedOut_of_runInOrder running run, _, exec_tick running,
      tickedFrom_deliverTick _⟩
    refine (perm.map DueEvent.command).trans (.of_eq ?_)
    simp only [State.dueEvents, List.map_append, List.map_map, dueLines_eq, due, apply_ite (List.map DueEvent.command)]
    rfl

/-! ## Timebase accesses (R126, R128; O7) -/

/-- Settles O7: TICK_LO through the latch, PRESCALE read back. -/
theorem timebaseAccesses : Obligations.TimebaseAccesses := by
  unfold Obligations.TimebaseAccesses
  refine ⟨fun s page running => ⟨?_, ?_⟩, fun s w running => ?_⟩
  · have read : exec (.tickLoRead page) s = .next (if s.inReset then { s with dataOut := 0 } else s.readTickLo) := rfl
    rw [read, if_neg (by simp [running])]
    rfl
  · exact busRead_page s page running (by decide)
  · refine ⟨s.writePrescale w, whileRunning_running s (fun s => s.writePrescale w) running, rfl, ?_⟩
    exact busRead_status (s.writePrescale w) (n := 0xB4) running (by decide) (by decide)

/-! ## PIN_CHANGE and CANDIDATE_STABLE (R21; O8) -/

theorem exec_pinChange (s : State) (n : Line) (level : Bool) : exec (.pinChange n level) s = .next (s.pinTo n level) := rfl

theorem exec_candidateStable {s : State} (n : Line) (running : s.inReset = false) :
    exec (.candidateStable n) s = .next (s.takeCandidate n) :=
  whileRunning_running s (fun s => s.takeCandidate n) running

theorem takeCandidate_due {s : State} {n : Line} {c : Candidate} (candidate : (s.line n).candidate = some c)
    (due : c.due = true) : s.takeCandidate n = s.stableChange n c.level := by
  simp [State.takeCandidate, candidate, due]

/-- The pin moves while no stable change is due at the line. -/
theorem pinTo_of_no_due {s : State} {n : Line} {level : Bool} (running : s.inReset = false)
    (moved : (s.line n).pin ≠ level) (noDue : ∀ c, (s.line n).candidate = some c → c.due = false) :
    s.pinTo n level = (s.setLine n { s.line n with pin := level }).seePin n := by
  have quiet : s.takeCandidate n = s := by
    refine takeCandidate_of_not_due s n ?_
    rw [isDue_eq]
    cases candidate : (s.line n).candidate with
    | none => rfl
    | some c => exact noDue c candidate
  simp [State.pinTo, moved, running, quiet]

/-- At the stable level the pin cancels a candidate. -/
theorem seePin_stable {s : State} {n : Line} (stable : (s.line n).pin = (s.line n).stable) :
    s.seePin n = s.setLine n { s.line n with candidate := none } := by
  simp [State.seePin, stable]

theorem seePin_fresh {s : State} {n : Line} (away : (s.line n).pin ≠ (s.line n).stable)
    (none : (s.line n).candidate = none) :
    s.seePin n =
      if s.filterLength n = 0 then s.stableChange n (s.line n).pin
      else s.setLine n { s.line n with candidate := some { level := (s.line n).pin, count := 0, due := false } } := by
  simp [State.seePin, away, none]

/-- A stable change leaves its line without a candidate, with the new level. -/
theorem line_stableChange (s : State) (n : Line) (level : Bool) :
    (s.stableChange n level).line n = { s.line n with stable := level, candidate := none } := by
  obtain ⟨_, _, _, _, _, same⟩ := stableChange_eq s n level
  rw [same]
  exact State.line_setLine_self s n _

theorem pin_takeCandidate (s : State) (n : Line) : ((s.takeCandidate n).line n).pin = (s.line n).pin := by
  unfold State.takeCandidate
  split
  · split
    · rw [line_stableChange]
    · rfl
  · rfl

/-- A due stable change is taken before the pin moves (log 4). -/
theorem pinTo_takeCandidate {s : State} {n : Line} {level : Bool} (running : s.inReset = false)
    (moved : (s.line n).pin ≠ level) : s.pinTo n level = (s.takeCandidate n).pinTo n level := by
  have again : (s.takeCandidate n).takeCandidate n = s.takeCandidate n := by
    cases due : (s.line n).isDue with
    | false => rw [takeCandidate_of_not_due s n due, takeCandidate_of_not_due s n due]
    | true =>
      refine takeCandidate_of_not_due _ n ?_
      unfold LineInput.isDue at due
      split at due
      · next c candidate =>
        rw [takeCandidate_due candidate due, line_stableChange]
        rfl
      · cases due
  have moved' : ((s.takeCandidate n).line n).pin ≠ level := by rwa [pin_takeCandidate]
  simp [State.pinTo, moved, moved', running, again]

/-- Settles O8: by what the pin shows and whether a candidate is there or due. -/
theorem lineCommands : Obligations.LineCommands := by
  unfold Obligations.LineCommands
  refine ⟨fun s n level running => ⟨fun still => ?_, fun moved stable noDue => ?_, fun moved away none filtered => ?_,
    fun moved away none unfiltered => ?_, fun c candidate due moved => ?_⟩, fun s n c running candidate due => ?_⟩
  · rw [exec_pinChange, State.pinTo, if_pos still]
  · rw [exec_pinChange, pinTo_of_no_due running moved noDue, seePin_stable (by simp [stable])]
    simp [stable]
  · rw [exec_pinChange, pinTo_of_no_due running moved (by simp [none]),
      seePin_fresh (by simpa using Ne.symm away) (by simpa using none)]
    simp [filtered]
  · rw [exec_pinChange, pinTo_of_no_due running moved (by simp [none]),
      seePin_fresh (by simpa using Ne.symm away) (by simpa using none)]
    simp only [filterLength_setLine, unfiltered, if_true, State.stableChange, State.setLine_setLine, State.line_setLine_self]
  · refine ⟨s.stableChange n c.level, ?_, by rw [line_stableChange], ?_⟩
    · rw [exec_candidateStable n running, takeCandidate_due candidate due]
    · rw [exec_pinChange, exec_pinChange, ← takeCandidate_due candidate due, pinTo_takeCandidate running moved]
  · rw [exec_candidateStable n running, takeCandidate_due candidate due]
    rfl

/-! ## The state after a power-on reset (O4) -/

@[simp] theorem line_reset (n : Line) : State.reset.line n = { pin := false, stable := false, candidate := none } :=
  Vector.getElem_replicate n.isLt

theorem freeSlot_reset : State.reset.freeSlot = some 0 :=
  (freeSlot_eq_some _ _).mpr ⟨by simp, fun j lt => absurd lt (Nat.not_lt_zero _)⟩

theorem nextSeq_reset (src : Source) : State.reset.pool.nextSeq[src] = 0 := Vector.getElem_replicate src.isLt

theorem overflow_reset (src : Source) : State.reset.pool.overflow[src] = 0 := Vector.getElem_replicate src.isLt

theorem freshSeq_reset (src : Source) : State.reset.freshSeq src = 0 := by
  rw [freshSeq_eq (j := 0) (by decide) (by simp) (by simp), nextSeq_reset]
  rfl

theorem held_reset (src : Source) : State.reset.held src = false := by
  have hold : State.reset.dispatcher.hold[src.val / 16]'(by omega) = 0 := Vector.getElem_replicate _
  rw [State.held, hold]
  exact BitVec.getLsbD_zero

/-- The default entries (R107, R198). -/
theorem words_default (src : Source) :
    (Entry.default src).word0 = BitVec.ofNat 16 src.val ∧ (Entry.default src).word1 = 0 ∧
      (Entry.default src).word2 = (if 60 ≤ src.val then 0x0110 else 0x0010) ∧ (Entry.default src).word3 = 0x0002 := by
  revert src
  decide +kernel

theorem staging_reset (src : Source) : State.reset.table.staging[src] = State.reset.entry src := rfl

theorem deadlines_reset (i : Fin 8) :
    State.reset.table.activeDeadlines[i] = 0 ∧ State.reset.table.stagingDeadlines[i] = 0 :=
  ⟨Vector.getElem_replicate i.isLt, Vector.getElem_replicate i.isLt⟩

/-- Settles O4: block by block. -/
theorem resetStateHasTheSpecValues : Obligations.ResetStateHasTheSpecValues := by
  unfold Obligations.ResetStateHasTheSpecValues
  intro s
  refine ⟨⟨by simp [s, State.freeCount], heldCount_reset, outstanding_reset,
      fun src => ⟨nextSeq_reset src, overflow_reset src⟩, rfl, rfl, rfl, rfl, rfl, freeSlot_reset, freshSeq_reset⟩,
    ⟨queue_reset, held_reset, rfl, rfl⟩, fun n => by simp [s], ⟨rfl, rfl, rfl⟩, internal_reset, fun src => ?_,
    deadlines_reset, ⟨rfl, rfl, rfl⟩, fun a => ?_, ⟨rfl, rfl, rfl, rfl, rfl⟩, ⟨rfl, rfl, rfl⟩, ⟨rfl, rfl, rfl⟩,
    ⟨rfl, rfl, rfl, rfl, rfl, rfl⟩, ⟨rfl, rfl, rfl, rfl, rfl, rfl⟩, ⟨rfl, rfl, rfl, rfl, rfl⟩,
    ⟨rfl, rfl, rfl, rfl, rfl, rfl, rfl⟩⟩
  · obtain ⟨word0, word1, word2, word3⟩ := words_default src
    rw [← entry_reset] at word0 word1 word2 word3
    exact ⟨word0, word1, word2, word3, staging_reset src⟩
  · simp [s, Port.timerRunning]

/-! ## POWER_ON_RESET and RESET_RELEASE (R184; O5) -/

/-- A line that follows its pin (R20). -/
def LineInput.following (l : LineInput) : LineInput := { pin := l.pin, stable := l.pin, candidate := none }

/-- Every line is without candidate, and its entry is disabled and without filter. -/
structure LinesQuiet (s : State) : Prop where
  candidate : ∀ n, (s.line n).candidate = none
  disabled : ∀ n : Line, (s.entry (lineSource n)).enable = false
  unfiltered : ∀ n : Line, (s.entry (lineSource n)).filter = 0

/-- R20, R21: with a disabled entry and filter length 0 the stable level follows the pin, and no arrival comes of it. -/
theorem seePin_quiet {s : State} (quiet : LinesQuiet s) (n : Line) : s.seePin n = s.setLine n (s.line n).following := by
  by_cases stable : (s.line n).pin = (s.line n).stable
  · rw [seePin_stable stable]
    simp [LineInput.following, stable]
  · have length : s.filterLength n = 0 := by simp [State.filterLength, quiet.unfiltered n]
    have ignored : ((s.setLine n (s.line n).following).resolve ((s.setLine n (s.line n).following).lineArrival n)).1 =
        s.setLine n (s.line n).following := by
      rw [resolve_disabled (quiet.disabled n)]
    rw [seePin_fresh stable (quiet.candidate n), if_pos length]
    unfold State.stableChange
    dsimp only
    split
    · exact ignored
    · rfl

theorem linesQuiet_setLine {s : State} (quiet : LinesQuiet s) (n : Line) :
    LinesQuiet (s.setLine n (s.line n).following) := by
  refine ⟨fun m => ?_, quiet.disabled, quiet.unfiltered⟩
  by_cases here : m = n
  · subst here
    rw [State.line_setLine_self]
    rfl
  · rw [State.line_setLine_ne s _ here]
    exact quiet.candidate m

/-- The lines of a list follow their pins. -/
theorem foldl_seePin_quiet {l : List Line} {s : State} (quiet : LinesQuiet s) :
    ∃ lines : Vector LineInput 32, l.foldl State.seePin s = { s with lines := lines } ∧
      ∀ n : Line, lines[n] = if n ∈ l then (s.line n).following else s.line n := by
  induction l generalizing s with
  | nil => exact ⟨s.lines, rfl, fun n => by simp [State.line]⟩
  | cons m l ih =>
    obtain ⟨lines, same, each⟩ := ih (linesQuiet_setLine quiet m)
    refine ⟨lines, ?_, fun n => ?_⟩
    · rw [List.foldl_cons, seePin_quiet quiet, same]
      rfl
    · rw [each n]
      by_cases here : n = m
      · subst here
        rw [State.line_setLine_self]
        simp [LineInput.following]
      · rw [State.line_setLine_ne s _ here]
        simp [here]

theorem exec_resetRelease (s : State) : exec .resetRelease s = .next s.releaseReset := rfl

/-- A release with quiet lines (R20, R184). -/
theorem releaseReset_quiet {s : State} (reset : s.inReset = true) (quiet : LinesQuiet s) :
    s.releaseReset = { s with inReset := false, lines := s.lines.map LineInput.following } := by
  have quiet' : LinesQuiet { s with inReset := false } := ⟨quiet.candidate, quiet.disabled, quiet.unfiltered⟩
  obtain ⟨lines, same, each⟩ := foldl_seePin_quiet (l := List.finRange 32) quiet'
  have all : lines = s.lines.map LineInput.following := by
    refine Vector.ext fun i lt => ?_
    have := each ⟨i, lt⟩
    rw [if_pos (List.mem_finRange _)] at this
    rw [Vector.getElem_map]
    exact this
  rw [State.releaseReset, if_pos reset, same, all]

theorem linesQuiet_powerOnReset (s : State) : LinesQuiet s.powerOnReset := by
  have default : ∀ n : Line, (Entry.default (lineSource n)).enable = false ∧ (Entry.default (lineSource n)).filter = 0 := by
    decide +kernel
  have entry (src : Source) : s.powerOnReset.entry src = Entry.default src := entry_reset src
  refine ⟨fun n => ?_, fun n => ?_, fun n => ?_⟩
  · simp [State.powerOnReset, State.line]
  · rw [entry]; exact (default n).1
  · rw [entry]; exact (default n).2

/-- All that seeing a pin can change. -/
theorem seePin_eq (s : State) (n : Line) :
    ∃ ls pool qs xs faults fs, s.seePin n =
      { s with
        lines := ls, pool := pool, dispatcher := { s.dispatcher with queues := qs }, internals := xs
        faults := faults, transmitter := { s.transmitter with queue := fs } } := by
  unfold State.seePin
  dsimp only
  split
  · exact ⟨_, _, _, _, _, _, rfl⟩
  · split
    · exact ⟨_, _, _, _, _, _, rfl⟩
    · split
      · obtain ⟨pool, qs, xs, faults, fs, same⟩ := stableChange_eq s n (s.line n).pin
        exact ⟨_, pool, qs, xs, faults, fs, same⟩
      · exact ⟨_, _, _, _, _, _, rfl⟩

theorem foldl_seePin_eq (l : List Line) (s : State) :
    ∃ ls pool qs xs faults fs, l.foldl State.seePin s =
      { s with
        lines := ls, pool := pool, dispatcher := { s.dispatcher with queues := qs }, internals := xs
        faults := faults, transmitter := { s.transmitter with queue := fs } } := by
  induction l generalizing s with
  | nil => exact ⟨_, _, _, _, _, _, rfl⟩
  | cons n l ih =>
    obtain ⟨ls, pool, qs, xs, faults, fs, first⟩ := seePin_eq s n
    obtain ⟨ls', pool', qs', xs', faults', fs', rest⟩ := ih (s.seePin n)
    refine ⟨ls', pool', qs', xs', faults', fs', ?_⟩
    rw [List.foldl_cons, rest, first]

/-- Settles O5: a power-on reset is `State.powerOnReset`, a release lets the lines follow their pins, and while RESET_N is
low only those two and the pins act. -/
theorem resetCommands : Obligations.ResetCommands := by
  unfold Obligations.ResetCommands
  refine ⟨fun s => ⟨rfl, fun reset address => by simp [State.busRead, reset]⟩, fun s => ⟨?_, fun running => ?_, ?_, ?_⟩,
    fun s c reset => ?_⟩
  · rintro t h
    cases h
    rw [exec_resetRelease]
    exact congrArg _ ((releaseReset_quiet rfl (linesQuiet_powerOnReset s)).trans (by
      simp only [State.powerOnReset, Vector.map_map]
      rfl))
  · rw [exec_resetRelease, State.releaseReset, if_neg (by simp [running])]
  · intro reset candidate entries
    rw [exec_resetRelease, releaseReset_quiet reset ⟨candidate, fun n => (entries n).1, fun n => (entries n).2⟩]
    rfl
  · refine ⟨_, exec_resetRelease s, ?_⟩
    cases reset : s.inReset with
    | false =>
      rw [State.releaseReset, if_neg (by simp [reset])]
      exact ⟨reset, rfl, rfl, rfl, rfl, rfl, rfl, rfl, rfl⟩
    | true =>
      obtain ⟨_, _, _, _, _, _, same⟩ := foldl_seePin_eq (List.finRange 32) { s with inReset := false }
      rw [State.releaseReset, if_pos reset, same]
      exact ⟨rfl, rfl, rfl, rfl, rfl, rfl, rfl, rfl, rfl⟩
  · cases c with
    | powerOnReset => trivial
    | resetRelease => trivial
    | pinChange n level =>
      dsimp only
      rw [exec_pinChange, State.pinTo]
      split
      · next still => rw [← still, State.setLine_line]
      · rfl
    | claim a => exact congrArg _ (if_pos reset)
    | tickLoRead page => exact congrArg _ (if_pos reset)
    | _ => exact congrArg _ (if_pos reset)

end Sys2Proof.Machine
end

section
/-!
PROOF. Walks, POST, PURGE, AGENT_RESET and CLEAR (O34 to O39).
-/
namespace Sys2Proof.Machine

/-! ## The position of a walk (R50; O34) -/

theorem ahead_eq_nil_iff (s : State) (p : QueuePos) : s.ahead p = [] ↔ (s.queue p.queue).length ≤ p.passed :=
  List.drop_eq_nil_iff

theorem advance_of_nil {s : State} {fuel : Nat} {p : QueuePos} {c : Class} (empty : s.ahead p = [])
    (below : c.val + 1 = p.queue.val) : s.advance (fuel + 1) p = s.advance fuel ⟨c, 0⟩ := by
  have notLast : p.queue.val ≠ 0 := by omega
  have same : (⟨p.queue.val - 1, by omega⟩ : Class) = c := Fin.ext (by dsimp only; omega)
  simp [State.advance, empty, notLast, same]

theorem advance_of_cons {s : State} {fuel : Nat} {p : QueuePos} {r : EventRecord} {rest : List EventRecord}
    (ahead : s.ahead p = r :: rest) : s.advance (fuel + 1) p = some (p, r) := by
  simp [State.advance, ahead]

theorem advance_last {s : State} {fuel : Nat} {p : QueuePos} (empty : s.ahead p = []) (last : p.queue.val = 0) :
    s.advance (fuel + 1) p = none := by
  simp [State.advance, empty, last]

/-- What a walk finds from a position on. -/
structure Found (s : State) (p q : QueuePos) (r : EventRecord) : Prop where
  record : (s.queue q.queue)[q.passed]? = some r
  place : q = p ∨
    (q.queue < p.queue ∧ q.passed = 0 ∧ (s.queue p.queue).length ≤ p.passed ∧
      ∀ c : Class, q.queue < c → c < p.queue → s.queue c = [])

/-- Nothing lies at or behind a position. -/
def NothingAhead (s : State) (p : QueuePos) : Prop :=
  (s.queue p.queue).length ≤ p.passed ∧ ∀ c : Class, c < p.queue → s.queue c = []

theorem Found.of_below {s : State} {p q : QueuePos} {c : Class} {r : EventRecord} (empty : s.ahead p = [])
    (below : c.val + 1 = p.queue.val) (h : Found s ⟨c, 0⟩ q r) : Found s p q r := by
  have passed := (ahead_eq_nil_iff s p).mp empty
  obtain ⟨record, rfl | ⟨lower, zero, none, between⟩⟩ := h
  · refine ⟨record, .inr ⟨Fin.lt_def.mpr (by dsimp only; omega), rfl, passed, fun d above under => ?_⟩⟩
    have := Fin.lt_def.mp above
    have := Fin.lt_def.mp under
    dsimp only at *
    omega
  · refine ⟨record, .inr ⟨Fin.lt_def.mpr (by have := Fin.lt_def.mp lower; dsimp only at this; omega), zero, passed,
      fun d above under => ?_⟩⟩
    by_cases here : d = c
    · subst here
      exact List.length_eq_zero_iff.mp (Nat.le_zero.mp none)
    · refine between d above (Fin.lt_def.mpr ?_)
      have := Fin.lt_def.mp under
      have : d.val ≠ c.val := fun eq => here (Fin.ext eq)
      dsimp only
      omega

theorem nothingAhead_below {s : State} {p : QueuePos} {c : Class} (empty : s.ahead p = []) (below : c.val + 1 = p.queue.val) :
    NothingAhead s ⟨c, 0⟩ ↔ NothingAhead s p := by
  have passed := (ahead_eq_nil_iff s p).mp empty
  constructor
  · rintro ⟨none, rest⟩
    refine ⟨passed, fun d under => ?_⟩
    by_cases here : d = c
    · subst here
      exact List.length_eq_zero_iff.mp (Nat.le_zero.mp none)
    · refine rest d (Fin.lt_def.mpr ?_)
      have := Fin.lt_def.mp under
      have : d.val ≠ c.val := fun eq => here (Fin.ext eq)
      dsimp only
      omega
  · rintro ⟨-, rest⟩
    have own : s.queue c = [] := rest c (Fin.lt_def.mpr (by omega))
    refine ⟨by simp [own], fun d under => rest d (Fin.lt_def.mpr ?_)⟩
    have := Fin.lt_def.mp under
    dsimp only at this
    omega

/-- With enough fuel for the queues below, the walk finds the next record, or there is none. -/
theorem advance_spec (s : State) (fuel : Nat) (p : QueuePos) (enough : p.queue.val < fuel) :
    (s.advance fuel p = none ↔ NothingAhead s p) ∧ ∀ q r, s.advance fuel p = some (q, r) → Found s p q r := by
  induction fuel generalizing p with
  | zero => omega
  | succ fuel ih =>
    cases ahead : s.ahead p with
    | cons r rest =>
      rw [advance_of_cons ahead]
      refine ⟨iff_of_false (by simp) fun none => ?_, fun q x found => ?_⟩
      · rw [(ahead_eq_nil_iff s p).mpr none.1] at ahead
        cases ahead
      · cases found
        have first : (s.ahead p)[0]? = some r := by rw [ahead]; rfl
        rw [State.ahead, List.getElem?_drop] at first
        exact ⟨first, .inl rfl⟩
    | nil =>
      by_cases last : p.queue.val = 0
      · rw [advance_last ahead last]
        refine ⟨iff_of_true rfl ⟨(ahead_eq_nil_iff s p).mp ahead, fun c under => ?_⟩, by simp⟩
        have := Fin.lt_def.mp under
        omega
      · have below : (⟨p.queue.val - 1, by omega⟩ : Class).val + 1 = p.queue.val := by dsimp only; omega
        obtain ⟨none, found⟩ := ih ⟨⟨p.queue.val - 1, by omega⟩, 0⟩ (by dsimp only; omega)
        rw [advance_of_nil ahead below, none, nothingAhead_below ahead below]
        exact ⟨.rfl, fun q r h => (found q r h).of_below ahead below⟩

theorem nextVisit_spec (s : State) (p : QueuePos) :
    (s.nextVisit p = none ↔ NothingAhead s p) ∧ ∀ q r, s.nextVisit p = some (q, r) → Found s p q r :=
  advance_spec s 16 p p.queue.isLt

/-- Settles O34: by the queues the walk goes through, and by the walk a head insertion finds. -/
theorem walkPositionAndHeadInsertion : Obligations.WalkPositionAndHeadInsertion := by
  unfold Obligations.WalkPositionAndHeadInsertion
  refine ⟨fun s p => ?_, fun s r => ?_⟩
  · obtain ⟨none, found⟩ := nextVisit_spec s p
    exact ⟨none, fun q r h => ⟨(found q r h).record, (found q r h).place⟩⟩
  · intro t
    have walk : t.command.walk = s.command.walk.map (·.headInserted r.cls) := rfl
    refine ⟨by rw [queue_insertHead, if_pos rfl], fun c other => by rw [queue_insertHead, if_neg other], rfl,
      fun none => by rw [walk, none]; rfl, fun p => ?_⟩
    intro q
    refine ⟨fun h => ?_, fun src h => ?_, fun h => ?_⟩
    all_goals rw [walk, h]; rfl

/-! ## The regroup walk (R117 to R120; O35) -/

theorem exec_regroupVisit {s : State} (m : WalkMove) (running : s.inReset = false) :
    exec (.regroupVisit m) s = .next (s.regroupVisit m) :=
  whileRunning_running s (fun s => s.regroupVisit m) running

theorem regroupVisit_record {s : State} {p q : QueuePos} {r : EventRecord} (walk : s.command.walk = some (.regroup p))
    (next : s.nextVisit p = some (q, r)) : s.regroupVisit .record = s.regroupRecord q r := by
  simp [State.regroupVisit, walk, next]

/-- A walk at its queue's end enters the next queue (R50). -/
theorem nextQueue_eq {s : State} {p : QueuePos} {c : Class} (passed : (s.queue p.queue).length ≤ p.passed)
    (below : c.val + 1 = p.queue.val) : s.nextQueue p = ⟨c, 0⟩ := by
  have notLast : p.queue.val ≠ 0 := by omega
  have same : (⟨p.queue.val - 1, by omega⟩ : Class) = c := Fin.ext (by dsimp only; omega)
  simp [State.nextQueue, (ahead_eq_nil_iff s p).mpr passed, notLast, same]

theorem refreshes_iff (e : Entry) (src : Source) :
    e.refreshes src = true ↔
      e.link = false ∧ e.agentSet ≠ 0 ∧ ({ e with enable := true } : Entry).invalid src = false := by
  have legal : ({ e with enable := true } : Entry).invalid src = !e.legal src := rfl
  rw [legal, Entry.refreshes]
  cases e.legal src <;> simp

/-- R119: the retarget an escalated record is left with. -/
theorem keptRetarget_eq (e : Entry) (retarget : Option Agent) :
    keptRetarget e retarget =
      retarget.elim none fun b => if e.agentSet.getLsbD b.val = true ∨ e.fallback = some b then some b else e.fallback := by
  cases retarget with
  | none => rfl
  | some b => simp [keptRetarget]

theorem regroupRecord_skipped {s : State} {q : QueuePos} {r : EventRecord}
    (kept : ¬(s.entry r.source).refreshes r.source = true) : s.regroupRecord q r = s.setWalk (.regroup q.past) :=
  if_neg kept

theorem regroupRecord_inPlace {s : State} {q : QueuePos} {r : EventRecord}
    (refreshes : (s.entry r.source).refreshes r.source = true) (same : (r.refreshed (s.entry r.source)).cls = r.cls) :
    s.regroupRecord q r =
      (s.changePending r.slot fun _ => r.refreshed (s.entry r.source)).setWalk (.regroup q.past) :=
  (if_pos refreshes).trans (if_pos same)

theorem regroupRecord_moved {s : State} {q : QueuePos} {r : EventRecord}
    (refreshes : (s.entry r.source).refreshes r.source = true) (other : (r.refreshed (s.entry r.source)).cls ≠ r.cls) :
    s.regroupRecord q r =
      (((s.removePending r.slot).insertTail (r.refreshed (s.entry r.source))).setWalk (.regroup q)).countVisit :=
  (if_pos refreshes).trans (if_neg other)

/-- Settles O35: the visit by whether the entry refreshes and whether the class changes, and the end of the walk. -/
theorem regroupWalk : Obligations.RegroupWalk := by
  unfold Obligations.RegroupWalk
  refine ⟨fun s p running walk => ⟨fun q r next => ?_, fun passed c below => ?_⟩, fun s p running walk none => ?_⟩
  · intro e past at' tested refreshes kept r'
    have kept_eq : kept = keptRetarget e r.retarget := by
      rw [keptRetarget_eq]
      cases h : r.retarget <;> simp only [kept, h] <;> rfl
    have record : r' = r.refreshed e := by
      unfold EventRecord.refreshed
      simp only [testDeclined_eq, ← kept_eq]
      rfl
    have when' : refreshes ↔ e.refreshes r.source = true := (refreshes_iff e r.source).symm
    rw [exec_regroupVisit _ running, regroupVisit_record walk next, when', record]
    refine ⟨fun skip => ?_, fun refresh same => ?_, fun refresh other => ?_⟩
    · rw [regroupRecord_skipped skip]
      rfl
    · rw [regroupRecord_inPlace refresh same]
      rfl
    · rw [regroupRecord_moved refresh other]
      rfl
  · rw [exec_regroupVisit _ running, State.regroupVisit, walk]
    dsimp only
    rw [nextQueue_eq passed below]
    rfl
  · have ended : exec .regroupEnd s = .next s.regroupEnd := whileRunning_running s State.regroupEnd running
    rw [ended, State.regroupEnd, walk]
    dsimp only
    rw [none]
    rfl

/-! ## POST (R28; O36) -/

theorem exec_post {s : State} (page : Agent) (operand : Byte) (running : s.inReset = false) (idle : s.walking = false) :
    exec (.post page operand) s = .next (State.postCommand page operand s) :=
  whileRunning_takeCommand_idle 5 (State.postCommand page operand) running idle

/-- With no walk in flight no source is under PURGE, and no CLEAR walk discards. -/
theorem noDiscard_of_idle {s : State} (idle : s.walking = false) (src : Source) :
    s.underPurge src = false ∧ s.clearing = false := by
  simp [State.underPurge, State.clearing, walk_eq_none idle]

theorem allocateOrOverflow_not_discarded (s : State) (a : Arrival) : (s.allocateOrOverflow a).2 ≠ .discarded := by
  unfold State.allocateOrOverflow State.place
  split
  · split
    · split
      · simp
      · split
        · split <;> simp
        · simp
    · simp
  · simp

/-- R33: only a walk discards. -/
theorem resolve_not_discarded {s : State} {a : Arrival} (noPurge : s.underPurge a.source = false)
    (noClear : s.clearing = false) : (s.resolve a).2 ≠ .discarded := by
  unfold State.resolve
  dsimp only
  split
  · simp
  · rw [if_neg (by simp [noPurge]), if_neg (by simp [noClear])]
    split
    · simp
    · simp
    · exact allocateOrOverflow_not_discarded s a

/-- Settles O36: the two tests of R28, else one arrival and its outcome's code. -/
theorem postResultOfCommand : Obligations.PostResult := by
  unfold Obligations.PostResult
  intro s page operand running idle
  rw [exec_post page operand running idle]
  refine ⟨fun high => ?_, fun low badLength => ?_, fun src value low length => ?_⟩
  · rw [State.postCommand, dif_neg (Nat.not_le.mpr high)]
    rfl
  · rw [State.postCommand, dif_pos low, if_pos badLength]
    rfl
  · intro data after
    obtain ⟨noPurge, noClear⟩ := noDiscard_of_idle idle src
    have considered : after.2 ≠ .discarded := resolve_not_discarded noPurge noClear
    have source : (⟨32 + operand.toNat, by omega⟩ : Source) = src := Fin.ext value.symm
    refine ⟨considered, ?_⟩
    rw [State.postCommand, dif_pos low, if_neg length, source]
    change Host.Outcome.next (commandEnds after.1 page 5 operand .done .noReason (postResult after.2)) = _
    cases outcome : after.2 with
    | discarded => exact absurd outcome considered
    | _ => rfl

/-! ## PURGE (R51 to R53; O37) -/

theorem exec_purge {s : State} (page : Agent) (operand : Byte) (running : s.inReset = false) (idle : s.walking = false) :
    exec (.purge page operand) s = .next (s.purge page operand) :=
  whileRunning_takeCommand_idle 6 (State.purge page operand) running idle

theorem exec_purgeVisit {s : State} (m : WalkMove) (running : s.inReset = false) :
    exec (.purgeVisit m) s = .next (s.purgeVisit m) :=
  whileRunning_running s (fun s => s.purgeVisit m) running

theorem exec_purgeEnd {s : State} (running : s.inReset = false) : exec .purgeEnd s = .next s.purgeEnd :=
  whileRunning_running s State.purgeEnd running

theorem purgeVisit_record {s : State} {src : Source} {p q : QueuePos} {r : EventRecord}
    (walk : s.command.walk = some (.purge src p)) (next : s.nextVisit p = some (q, r)) :
    s.purgeVisit .record = s.purgeRecord src q r := by
  simp [State.purgeVisit, walk, next]

theorem purgeRecord_other {s : State} {src : Source} {q : QueuePos} {r : EventRecord} (other : r.source ≠ src) :
    s.purgeRecord src q r = s.setWalk (.purge src q.past) :=
  if_neg other

/-- A record of the source is freed and counted; what the grant does the count does not see. -/
theorem purgeRecord_own {s : State} {src : Source} {q : QueuePos} {r : EventRecord} (own : r.source = src) :
    s.purgeRecord src q r =
      (if isChannel src then ((s.removePending r.slot).setWalk (.purge src q)).growGrant
       else (s.removePending r.slot).setWalk (.purge src q)).countVisit :=
  if_pos own

theorem countVisit_growGrant (s : State) : s.growGrant.countVisit = s.countVisit.growGrant := by
  unfold State.growGrant State.countVisit
  dsimp only
  split <;> rfl

theorem purgeEnd_line {s : State} {src : Source} {p : QueuePos} {n : Line} (walk : s.command.walk = some (.purge src p))
    (none : s.nextVisit p = none) (line : lineOf src = some n) : s.purgeEnd = s.endWalk.followUps [.rearm n] := by
  simp [State.purgeEnd, walk, none, line]

theorem purgeEnd_noLine {s : State} {src : Source} {p : QueuePos} (walk : s.command.walk = some (.purge src p))
    (none : s.nextVisit p = none) (line : lineOf src = Option.none) : s.purgeEnd = s.endWalk := by
  simp [State.purgeEnd, walk, none, line]

/-- Settles O37: acceptance, each visit by the record's source, and the end by whether the source is a line. -/
theorem purgeWalk : Obligations.PurgeWalk := by
  unfold Obligations.PurgeWalk
  refine ⟨fun s page operand running idle => ⟨fun high => ?_, fun src value => ?_⟩,
    fun s src p running walk => ⟨fun q r next => ?_, fun passed c below => ?_⟩, fun s src p running walk none => ?_⟩
  · rw [exec_purge page operand running idle, State.purge, dif_neg (Nat.not_lt.mpr high)]
    rfl
  · intro t
    have low : operand.toNat < 64 := value ▸ src.isLt
    have source : (⟨operand.toNat, low⟩ : Source) = src := Fin.ext value.symm
    refine ⟨?_, by simp [t, State.underPurge]⟩
    rw [exec_purge page operand running idle, State.purge, dif_pos low, source]
    rfl
  · intro at' freed
    rw [exec_purgeVisit _ running, purgeVisit_record walk next]
    refine ⟨fun other => ?_, fun own kind => ?_, fun own low high => ?_⟩
    · rw [purgeRecord_other other]
      rfl
    · have noChannel : ¬isChannel src = true := by simp [isChannel]; omega
      rw [purgeRecord_own own, if_neg noChannel]
      rfl
    · have channel : isChannel src = true := by simp [isChannel]; omega
      rw [purgeRecord_own own, if_pos channel, countVisit_growGrant]
      rfl
  · rw [exec_purgeVisit _ running, State.purgeVisit, walk]
    dsimp only
    rw [nextQueue_eq passed below]
    rfl
  · intro ended
    rw [exec_purgeEnd running]
    refine ⟨fun low => ?_, fun n line => ?_⟩
    · rw [purgeEnd_noLine walk none (lineOf_eq_none low)]
      rfl
    · obtain ⟨-, source⟩ := lineOf_eq_some line
      have active : s.endWalk.lineActive n = s.lineActive n := rfl
      have count : s.endWalk.outstanding (lineSource n) = s.outstanding (lineSource n) := rfl
      rw [purgeEnd_line walk none line, followUps_rearm, active, count, source]
      rfl

/-! ## AGENT_RESET (R81 to R83; O38) -/

theorem exec_agentReset {s : State} (page : Agent) (operand : Byte) (running : s.inReset = false)
    (idle : s.walking = false) : exec (.agentReset page operand) s = .next (s.agentReset page operand) :=
  whileRunning_takeCommand_idle 7 (State.agentReset page operand) running idle

theorem exec_agentResetTake {s : State} (running : s.inReset = false) : exec .agentResetTake s = .next s.resetTake :=
  whileRunning_running s State.resetTake running

theorem exec_agentResetEnd {s : State} (running : s.inReset = false) : exec .agentResetEnd s = .next s.resetEnd :=
  whileRunning_running s State.resetEnd running

theorem resetTake_eq {s : State} {a : Agent} {r : EventRecord} {rest : List EventRecord}
    (walk : s.command.walk = some (.agentReset a)) (stack : (s.port a).stack = r :: rest) :
    s.resetTake =
      ((s.setPort a { s.port a with stack := rest }).handBack
        { r with remaining := none, abandoned := true, returns := satFin r.returns }).countVisit := by
  simp [State.resetTake, walk, stack]

theorem resetEnd_eq {s : State} {a : Agent} (walk : s.command.walk = some (.agentReset a)) (empty : (s.port a).stack = []) :
    s.resetEnd = (s.setPort a { s.port a with state := .off }).endWalk := by
  simp [State.resetEnd, walk, empty]

/-- Settles O38: acceptance queue by queue and port by port, each take by the record's source, and the end. -/
theorem agentResetWalk : Obligations.AgentResetWalk := by
  unfold Obligations.AgentResetWalk
  refine ⟨fun s page operand running idle => ⟨fun high => ?_, fun a value => ?_⟩, fun s a r rest running walk stack => ?_,
    fun s a running walk empty => ?_⟩
  · rw [exec_agentReset page operand running idle, State.agentReset, dif_neg (Nat.not_lt.mpr high)]
    rfl
  · intro u
    have low : operand.toNat < 4 := value ▸ a.isLt
    have agent : (⟨operand.toNat, low⟩ : Agent) = a := Fin.ext value.symm
    have own : ((s.agentReset page operand).port a) =
        { s.port a with
          state := .draining, tickDue := false, withdrawn := [], stack := (s.port a).stack.map u } := by
      rw [State.agentReset, dif_pos low, agent]
      refine (State.port_setPort_self _ a _).trans ?_
      rw [port_undeclineAll]
      rfl
    refine ⟨_, exec_agentReset page operand running idle, ?_, fun c => ?_, ?_, own, fun b other => ?_, ?_, ?_, ?_⟩
    · rw [State.agentReset, dif_pos low, agent]
      rfl
    · rw [State.agentReset, dif_pos low, agent]
      exact queue_undeclineAll s a c
    · rw [State.agentReset, dif_pos low, agent]
      rfl
    · rw [State.agentReset, dif_pos low, agent]
      exact (State.port_setPort_ne _ _ other).trans (port_undeclineAll s a b)
    · simp [State.notify, own]
    · simp [State.wakeCause, own]
    · rw [own]
      unfold Port.timerRunning
      split <;> rfl
  · intro s1 back done
    have taken : done (s1.handBack back) := by
      simp only [done]
      rw [exec_agentResetTake running, resetTake_eq walk stack]
      rfl
    refine ⟨fun external => ?_, fun i source => ?_⟩
    · rwa [handBack_external (r := back) external] at taken
    · split
      · next raised => rwa [handBack_raised (s := s1) (r := back) source raised] at taken
      · next quiet => rwa [handBack_quiet (s := s1) (r := back) source (Bool.eq_false_iff.mpr quiet)] at taken
  · rw [exec_agentResetEnd running, resetEnd_eq walk empty]
    rfl

/-! ## The re-arm occasions of all lines (R24) -/

/-- The active level lines whose source has no record. -/
def State.rearmedLines (s : State) : List Line :=
  (List.finRange 32).filter fun n => s.lineActive n && s.outstanding (lineSource n) == 0

theorem followUps_allLines (s : State) : s.followUps allLines = s.settle followUp (s.rearmedLines.map .rearm) := by
  rw [State.followUps, allLines, List.filter_map]
  rfl

/-- They are taken in a free order (log 6). -/
theorem followUps_allLines_order (s : State) :
    ∃ order : List FollowUp, order.Perm (s.rearmedLines.map .rearm) ∧ ∃ n,
      s.followUps allLines = order.foldl (fun t f => followUp f t) { s with choices := n } := by
  obtain ⟨order, perm, run⟩ := settle_order s followUp (s.rearmedLines.map .rearm)
  rw [followUps_allLines]
  exact ⟨order, perm, foldl_followUp_of_runInOrder run⟩

theorem followUps_allLines_none {s : State}
    (idle : ∀ n, s.lineActive n = false ∨ s.outstanding (lineSource n) ≠ 0) : s.followUps allLines = s := by
  have none : s.rearmedLines = [] := List.filter_eq_nil_iff.mpr fun n _ => by
    obtain passive | busy := idle n
    · simp [passive]
    · simp [busy]
  rw [followUps_allLines, none]
  rfl

theorem followUps_allLines_one {s : State} {n : Line}
    (others : ∀ m, m ≠ n → s.lineActive m = false ∨ s.outstanding (lineSource m) ≠ 0) (active : s.lineActive n = true)
    (free : s.outstanding (lineSource n) = 0) : s.followUps allLines = (s.resolve (s.lineArrival n)).1 := by
  have test : (fun m => s.lineActive m && s.outstanding (lineSource m) == 0) = fun m => m == n := by
    funext m
    by_cases here : m = n
    · simp [here, active, free]
    · obtain passive | busy := others m here
      · simp only [passive, Bool.false_and, beq_eq_false_iff_ne.mpr here]
      · simp only [beq_eq_false_iff_ne.mpr busy, Bool.and_false, beq_eq_false_iff_ne.mpr here]
  have one : s.rearmedLines = [n] := by
    rw [State.rearmedLines, test, List.filter_beq, (List.nodup_finRange 32).count,
      if_pos (List.mem_finRange n)]
    rfl
  have single : s.followUps allLines = followUp (.rearm n) s := by
    rw [followUps_allLines, one]
    rfl
  rw [single]
  exact if_pos (by simp [active, free])

/-! ## CLEAR (R192 to R195; O39) -/

theorem exec_clear {s : State} (page : Agent) (operand : Byte) (running : s.inReset = false) (idle : s.walking = false) :
    exec (.clear page operand) s = .next (s.clear page operand) :=
  whileRunning_takeCommand_idle 8 (State.clear page operand) running idle

theorem exec_clearVisit {s : State} (m : WalkMove) (running : s.inReset = false) :
    exec (.clearVisit m) s = .next (s.clearVisit m) :=
  whileRunning_running s (fun s => s.clearVisit m) running

theorem clearVisit_record {s : State} {p q : QueuePos} {r : EventRecord} (walk : s.command.walk = some (.clear p))
    (next : s.nextVisit p = some (q, r)) :
    s.clearVisit .record = ((s.removePending r.slot).setWalk (.clear q)).countVisit := by
  simp [State.clearVisit, walk, next]

theorem exec_clearEnd {s : State} {p : QueuePos} (running : s.inReset = false) (walk : s.command.walk = some (.clear p))
    (none : s.nextVisit p = none) : exec .clearEnd s = .next (s.endWalk.followUps allLines) := by
  have written : exec .clearEnd s = .next s.clearEnd := whileRunning_running s State.clearEnd running
  rw [written, State.clearEnd, walk]
  dsimp only
  rw [none]
  rfl

/-- Settles O39: the seven items, a visit, and the end with its re-arm occasions. -/
theorem clearWalk : Obligations.ClearWalk := by
  unfold Obligations.ClearWalk
  refine ⟨fun s page operand running idle => ?_, fun s p running walk => ⟨fun q r next => ?_, fun passed c below => ?_⟩,
    fun s p running walk none => ?_⟩
  · rw [exec_clear page operand running idle]
    rfl
  · rw [exec_clearVisit _ running, clearVisit_record walk next]
    rfl
  · rw [exec_clearVisit _ running, State.clearVisit, walk]
    dsimp only
    rw [nextQueue_eq passed below]
    rfl
  · intro ended
    rw [exec_clearEnd running walk none]
    refine ⟨⟨_, rfl, ?_⟩, fun idle => ?_, fun n others active free => ?_, ?_⟩
    · obtain ⟨_, _, _, _, _, _, same⟩ := followUps_eq s.endWalk allLines
      rw [same]
      exact ⟨rfl, rfl, rfl, rfl, rfl⟩
    · exact congrArg _ (followUps_allLines_none (s := s.endWalk) idle)
    · exact congrArg _ (followUps_allLines_one (s := s.endWalk) others active free)
    · obtain ⟨order, perm, n, same⟩ := followUps_allLines_order s.endWalk
      exact ⟨order, perm, n, congrArg _ same⟩

end Sys2Proof.Machine
end

section
/-!
PROOF. COMMIT (O33): the checks of an entry, the refusals, and the switch with the Line Inputs' part in it.
-/
namespace Sys2Proof.Machine

/-! ## The checks of an entry (R113) -/

theorem triggerMode_isSome_iff (e : Entry) : e.triggerMode.isSome = true ↔ e.trigger.toNat < 5 := by
  unfold Entry.triggerMode
  match e.trigger.toNat with
  | 0 | 1 | 2 | 3 | 4 => simp
  | n + 5 => simp

theorem legal_iff (e : Entry) (src : Source) :
    e.legal src = true ↔
      (e.link = true ↔ e.agentSet = 0) ∧ (e.handle ≠ 0xFFFE ∧ e.handle ≠ 0xFFFF) ∧
        (1 ≤ e.maxOutstanding.toNat ∧ e.maxOutstanding.toNat ≤ 8) ∧ (e.coalesce ≠ 3 ∧ e.policy ≠ 3) ∧
        (32 ≤ src.val ∨ e.trigger.toNat < 5) ∧ (src.val < 44 ∨ e.link = false) ∧
        (src.val < 60 ∨ (e.maxOutstanding = 1 ∧ e.coalesce = 1)) := by
  have route : (e.link != (e.agentSet != 0)) = true ↔ (e.link = true ↔ e.agentSet = 0) := by
    cases e.link <;> simp
  simp only [Entry.legal, Bool.and_eq_true, Bool.or_eq_true, decide_eq_true_eq, bne_iff_ne, beq_iff_eq, Bool.not_eq_true',
    triggerMode_isSome_iff, and_assoc]
  rw [← route, bne_iff_ne]

theorem invalid_iff (e : Entry) (src : Source) :
    e.invalid src = true ↔
      e.enable = true ∧
      ((e.link = false ∧ e.agentSet = 0) ∨ (e.link = true ∧ e.agentSet ≠ 0) ∨
       e.handle = 0xFFFE ∨ e.handle = 0xFFFF ∨
       e.maxOutstanding = 0 ∨ 9 ≤ e.maxOutstanding.toNat ∨ e.coalesce = 3 ∨ e.policy = 3 ∨
       (src.val < 32 ∧ 5 ≤ e.trigger.toNat) ∨
       (44 ≤ src.val ∧ src.val < 60 ∧ e.link = true) ∨
       (60 ≤ src.val ∧ (e.link = true ∨ e.maxOutstanding ≠ 1 ∨ e.coalesce ≠ 1))) := by
  rw [Entry.invalid, Bool.and_eq_true, Bool.not_eq_true', Bool.eq_false_iff, Ne, legal_iff]
  refine and_congr_right fun _ => ⟨fun illegal => ?_, fun failed => ?_⟩
  · refine Classical.byContradiction fun passes => ?_
    simp only [not_or, not_and] at passes
    obtain ⟨route, noLink, h1, h2, zero, many, coalesce, policy, trigger, channel, internal⟩ := passes
    refine illegal ⟨⟨?_, ?_⟩, ⟨h1, h2⟩, ⟨?_, by omega⟩, ⟨coalesce, policy⟩, ?_, ?_, ?_⟩
    · exact fun link => Classical.not_not.mp (noLink link)
    · exact fun set => Bool.not_eq_false _ ▸ fun unlinked => route unlinked set
    · exact Nat.one_le_iff_ne_zero.mpr fun none => zero (BitVec.eq_of_toNat_eq none)
    · by_cases line : src.val < 32
      · exact .inr (by have := trigger line; omega)
      · exact .inl (by omega)
    · by_cases high : 60 ≤ src.val
      · exact .inr (Bool.eq_false_iff.mpr (internal high).1)
      · by_cases low : 44 ≤ src.val
        · exact .inr (Bool.eq_false_iff.mpr (channel low (by omega)))
        · exact .inl (by omega)
    · by_cases high : 60 ≤ src.val
      · exact .inr ⟨Classical.not_not.mp (internal high).2.1, Classical.not_not.mp (internal high).2.2⟩
      · exact .inl (by omega)
  · rintro ⟨route, ⟨h1, h2⟩, ⟨least, most⟩, ⟨coalesce, policy⟩, trigger, channel, internal⟩
    obtain ⟨unlinked, set⟩ | ⟨linked, set⟩ | h | h | none | many | h | h | ⟨line, code⟩ | ⟨low, high, linked⟩ |
      ⟨high, h⟩ := failed
    · exact Bool.false_ne_true (unlinked.symm.trans (route.mpr set))
    · exact set (route.mp linked)
    · exact h1 h
    · exact h2 h
    · simp [none] at least
    · omega
    · exact coalesce h
    · exact policy h
    · omega
    · have off := channel.resolve_left (by omega)
      simp [off] at linked
    · have off := channel.resolve_left (by omega)
      obtain ⟨one, count⟩ := internal.resolve_left (by omega)
      simp [off, one, count] at h

/-! ## The refusals (R113, R114) -/

theorem exec_commit {s : State} (page : Agent) (operand : Byte) (running : s.inReset = false) (idle : s.walking = false) :
    exec (.commit page operand) s = .next (s.commit page operand) :=
  whileRunning_takeCommand_idle 3 (State.commit page operand) running idle

theorem find?_finRange_eq_some {n : Nat} {p : Fin n → Bool} {k : Fin n} (here : p k = true)
    (lower : ∀ j, j < k → p j = false) : (List.finRange n).find? p = some k := by
  refine List.find?_eq_some_iff_getElem.mpr ⟨here, k.val, by simp, by simp, fun j lt => ?_⟩
  simpa using lower ⟨j, by omega⟩ (Fin.lt_def.mpr lt)

theorem invalidEntry_eq_some {s : State} {src : Source} (here : (s.table.staging[src]).invalid src = true)
    (lower : ∀ j : Source, j < src → (s.table.staging[j]).invalid j = false) : s.invalidEntry = some src :=
  find?_finRange_eq_some here lower

theorem commit_closed {s : State} (page : Agent) (operand : Byte) (closed : s.table.session = .closed) :
    s.commit page operand = commandEnds s page 3 operand .refused .noSession 0 := by
  rw [State.commit, if_neg (by simp [closed])]
  rfl

theorem commit_invalid {s : State} {src : Source} (page : Agent) (operand : Byte) (opened : s.table.session = .opened)
    (invalid : s.invalidEntry = some src) :
    s.commit page operand =
      ((commandEnds s page 3 operand .refused .invalid (BitVec.ofNat 16 src.val)).setFault .commitInvalid).raise 3 2
        (BitVec.ofNat 16 src.val) := by
  rw [State.commit, if_pos opened, invalid]
  rfl

/-! ## The switch (R115) -/

/-- u with the staging entries of table t active and the regroup walk begun. -/
def State.switchedFrom (t : SourceTable) (page : Agent) (operand : Byte) (u : State) : State :=
  walkBegins
    { u with
      table := { t with active := t.staging, activeDeadlines := t.stagingDeadlines, session := .committing } }
    page 3 operand 0 (.regroup ⟨15, 0⟩)

theorem commit_valid {s : State} (page : Agent) (operand : Byte) (opened : s.table.session = .opened)
    (valid : s.invalidEntry = none) :
    s.commit page operand = (State.switchedFrom s.table page operand s.takeDueLines).switchLines := by
  rw [State.commit, if_pos opened, valid]
  obtain ⟨_, _, _, _, _, _, _, same⟩ := takeDueLines_eq s
  rw [same]
  rfl

/-- All that the Line Inputs' part of the switch can change. -/
theorem switchLines_eq (u : State) :
    ∃ ls pool qs xs faults q n, u.switchLines =
      { u with
        lines := ls, pool := pool, dispatcher := { u.dispatcher with queues := qs }, internals := xs, faults := faults
        transmitter := { u.transmitter with queue := q }, choices := n } := by
  unfold State.switchLines
  dsimp only
  generalize (Vector.ofFn fun n => (u.line n).switched (u.filterLength n)) = ls
  obtain ⟨pool, qs, xs, faults, q, n, first⟩ := followUps_eq { u with lines := ls }
    ((u.switchChanges.filter fun n => ({ u with lines := ls } : State).qualifies n
      (({ u with lines := ls } : State).line n).stable).map fun n =>
        FollowUp.arrival (({ u with lines := ls } : State).lineArrival n))
  rw [first]
  obtain ⟨pool', qs', xs', faults', q', n', second⟩ := followUps_eq
    { u with
      lines := ls, pool := pool, dispatcher := { u.dispatcher with queues := qs }, internals := xs, faults := faults
      transmitter := { u.transmitter with queue := q }, choices := n } allLines
  exact ⟨ls, pool', qs', xs', faults', q', n', second⟩

/-- Without candidates the Line Inputs' part is the re-arm occasions. -/
theorem switchLines_quiet {u : State} (none : ∀ n, (u.line n).candidate = none) :
    u.switchLines = u.followUps allLines := by
  have lines : (Vector.ofFn fun n => (u.line n).switched (u.filterLength n)) = u.lines := by
    refine Vector.ext fun i lt => ?_
    rw [Vector.getElem_ofFn]
    have := none ⟨i, lt⟩
    simp only [LineInput.switched, this]
    rfl
  have unchanged : u.switchChanges = [] := by simp [State.switchChanges, none]
  unfold State.switchLines
  dsimp only
  rw [lines, unchanged]
  simp only [List.filter_nil, List.map_nil]
  rw [followUps_nil]

/-- u with each line as the switch leaves it. -/
def State.withSwitchedLines (u : State) : State :=
  { u with lines := Vector.ofFn fun n => (u.line n).switched (u.filterLength n) }

/-- The lines whose change at the switch is an arrival under the new trigger modes. -/
def State.switchArrivals (u : State) : List Line :=
  (List.finRange 32).filter fun n =>
    u.filterLength n == 0 && (u.line n).candidate.isSome &&
      u.withSwitchedLines.qualifies n (u.withSwitchedLines.line n).stable

theorem switchLines_arrivals (u : State) :
    u.switchLines =
      (u.withSwitchedLines.followUps
        (u.switchArrivals.map fun n => FollowUp.arrival (u.withSwitchedLines.lineArrival n))).followUps allLines := by
  have filters : u.switchArrivals =
      u.switchChanges.filter fun n => u.withSwitchedLines.qualifies n (u.withSwitchedLines.line n).stable := by
    rw [State.switchArrivals, State.switchChanges, List.filter_filter]
    refine List.filter_congr fun n _ => ?_
    rw [Bool.and_comm]
    rfl
  rw [filters]
  rfl

/-- Arrivals all count, in a free order (log 6). -/
theorem followUps_arrivals_order {α : Type} (u : State) (xs : List α) (arrival : α → Arrival) :
    ∃ order : List FollowUp, order.Perm (xs.map fun x => .arrival (arrival x)) ∧ ∃ n,
      u.followUps (xs.map fun x => .arrival (arrival x)) =
        order.foldl (fun t f => followUp f t) { u with choices := n } := by
  obtain ⟨order, perm, run⟩ := followUps_order u (xs.map fun x => .arrival (arrival x))
  refine ⟨order, perm.trans (.of_eq (List.filter_eq_self.mpr fun f mem => ?_)), run⟩
  obtain ⟨x, -, rfl⟩ := List.mem_map.mp mem
  rfl

/-- The arrivals come first, then the re-arm occasions (log 20). -/
theorem switchLines_order (u : State) :
    ∃ first : List FollowUp,
      first.Perm (u.switchArrivals.map fun n => .arrival (u.withSwitchedLines.lineArrival n)) ∧ ∃ n1,
      let s2 := first.foldl (fun t f => followUp f t) { u.withSwitchedLines with choices := n1 }
      ∃ second : List FollowUp, second.Perm (s2.rearmedLines.map .rearm) ∧ ∃ n2,
        u.switchLines = second.foldl (fun t f => followUp f t) { s2 with choices := n2 } := by
  obtain ⟨first, perm, n1, arrived⟩ :=
    followUps_arrivals_order u.withSwitchedLines u.switchArrivals u.withSwitchedLines.lineArrival
  obtain ⟨second, perm', n2, rearmed⟩ :=
    followUps_allLines_order (first.foldl (fun t f => followUp f t) { u.withSwitchedLines with choices := n1 })
  refine ⟨first, perm, n1, second, perm', n2, ?_⟩
  rw [switchLines_arrivals, arrived, rearmed]

/-! ## The due stable changes before the switch (R21, R26) -/

theorem dueLines_eq_nil {s : State} (none : ∀ n, (s.line n).candidate = none) : s.dueLines = [] :=
  List.filter_eq_nil_iff.mpr fun n _ => by simp [isDue_eq, none n]

theorem carriedOut_candidates {order : List Line} {s t : State} (running : s.inReset = false)
    (h : RunInOrder (fun n (t : State) => t.takeCandidate n) order s t) :
    CarriedOut (order.map .candidateStable) s t := by
  induction order generalizing s with
  | nil => exact h
  | cons n order ih =>
    obtain ⟨k, h⟩ := h
    refine ⟨k, _, exec_candidateStable (s := { s with choices := k }) n running, ih ?_ h⟩
    rw [inReset_takeCandidate]
    exact running

theorem takeDueLines_carriedOut {s : State} (running : s.inReset = false) :
    ∃ taken : List Instr, taken.Perm ((linesWithDueCandidate s).map .candidateStable) ∧
      CarriedOut taken s s.takeDueLines := by
  obtain ⟨order, perm, run⟩ := settle_order s (fun n (t : State) => t.takeCandidate n) s.dueLines
  refine ⟨order.map .candidateStable, ?_, carriedOut_candidates running run⟩
  rw [← dueLines_eq]
  exact perm.map _

/-! ## COMMIT (O33) -/

theorem commit_accepted {s : State} (page : Agent) (operand : Byte) (running : s.inReset = false)
    (idle : s.walking = false) (opened : s.table.session = .opened)
    (valid : ∀ src : Source, (s.table.staging[src]).invalid src = false) :
    exec (.commit page operand) s = .next (State.switchedFrom s.table page operand s.takeDueLines).switchLines := by
  have none : s.invalidEntry = none := List.find?_eq_none.mpr fun src _ => Bool.not_eq_true _ ▸ valid src
  rw [exec_commit page operand running idle, commit_valid page operand opened none]

/-- Settles O33: the entry checks, the refusals, and the switch by what the Line Inputs hold. -/
theorem commitCommand : Obligations.CommitCommand := by
  unfold Obligations.CommitCommand
  refine ⟨invalid_iff, fun s page operand running idle => ⟨fun closed => ?_, fun opened src invalid lower => ?_⟩, ?_⟩
  · rw [exec_commit page operand running idle, commit_closed page operand closed]
  · rw [exec_commit page operand running idle,
      commit_invalid page operand opened (invalidEntry_eq_some invalid lower)]
  intro s page operand running idle opened valid switch switched
  have quiet (none : ∀ n, (s.line n).candidate = none) :
      exec (.commit page operand) s = .next (switched.followUps allLines) := by
    rw [commit_accepted page operand running idle opened valid, takeDueLines_of_none s (dueLines_eq_nil none)]
    exact congrArg _ (switchLines_quiet (u := State.switchedFrom s.table page operand s) none)
  refine ⟨?_, fun none idleLines => ?_, fun n none others active free => ?_, ?_⟩
  · refine ⟨_, commit_accepted page operand running idle opened valid, ?_⟩
    obtain ⟨_, _, _, _, _, _, _, due⟩ := takeDueLines_eq s
    obtain ⟨_, _, _, _, _, _, _, lines⟩ :=
      switchLines_eq (State.switchedFrom s.table page operand s.takeDueLines)
    rw [lines, due]
    exact ⟨rfl, rfl, rfl, rfl, rfl⟩
  · rw [quiet none, followUps_allLines_none idleLines]
  · rw [quiet none, followUps_allLines_one others active free]
  · obtain ⟨taken, perm, carried⟩ := takeDueLines_carriedOut running
    refine ⟨taken, perm, s.takeDueLines, carried, ?_⟩
    intro filter s1 changed
    have lines : s1 = (switch s.takeDueLines).withSwitchedLines := by
      refine congrArg (fun ls => { switch s.takeDueLines with lines := ls }) (congrArg Vector.ofFn (funext fun n => ?_))
      change _ = (s.takeDueLines.line n).switched (filter n)
      unfold LineInput.switched
      cases (s.takeDueLines.line n).candidate <;> rfl
    have same : changed = (switch s.takeDueLines).switchArrivals := by
      simp only [changed, lines]
      rfl
    rw [same, lines, commit_accepted page operand running idle opened valid]
    obtain ⟨first, perm1, n1, second, perm2, n2, run⟩ := switchLines_order (switch s.takeDueLines)
    exact ⟨first, perm1, n1, second, perm2, n2, congrArg _ run⟩

end Sys2Proof.Machine
end

section
/-!
PROOF. The Event Link: frames taken (O41, O46 to O48).
-/
namespace Sys2Proof.Machine

/-! ## Frames handed on as commands (R146; log 16) -/

section
variable {s : State} (running : s.inReset = false) (hunt : s.receiver.logic = .hunt)
include running hunt

theorem exec_received (f : Frame) : whileRunning s (fun s => s.receiveFrame f) = .next (s.takeFrame f) := by
  rw [whileRunning_running _ _ running, receiveFrame_hunt s f hunt]

theorem exec_helloTaken (session grant : Byte) :
    exec (.helloTaken session grant) s = .next (s.takeHello session grant) :=
  (exec_received running hunt _).trans (congrArg _ (takeFrame_hunt s (.hello session grant) hunt))

theorem exec_helloAckTaken (session grant : Byte) :
    exec (.helloAckTaken session grant) s = .next (s.takeHelloAck session grant) :=
  (exec_received running hunt _).trans (congrArg _ (takeFrame_hunt s (.helloAck session grant) hunt))

theorem exec_evtTaken (seq : Byte) (channel : Fin 16) (count : Byte) (payload : Payload) :
    exec (.evtTaken seq channel count payload) s = .next (s.takeEvt seq channel count payload) :=
  (exec_received running hunt _).trans
    (congrArg _ (takeFrame_hunt s (.evt seq (BitVec.ofFin channel) count payload) hunt))

theorem exec_ackTaken (next grant : Byte) : exec (.ackTaken next grant) s = .next (s.takeAck next grant) :=
  (exec_received running hunt _).trans (congrArg _ (takeFrame_hunt s (.ack next grant) hunt))

theorem exec_nakTaken (next grant : Byte) : exec (.nakTaken next grant) s = .next (s.takeNak next grant) :=
  (exec_received running hunt _).trans (congrArg _ (takeFrame_hunt s (.nak next grant) hunt))

theorem exec_crdTaken (grant : Byte) : exec (.crdTaken grant) s = .next (s.takeCrd grant) :=
  (exec_received running hunt _).trans (congrArg _ (takeFrame_hunt s (.crd grant) hunt))

end

/-! ## Handshake frames (R152 to R155; O41) -/

theorem takeHello_ignored {s : State} (session grant : Byte) (idle : s.link.state = .stopped ∨ s.link.state = .down) :
    s.takeHello session grant = s := by
  unfold State.takeHello
  obtain h | h := idle <;> rw [h]

theorem takeHello_helloSent {s : State} (session grant : Byte) (waiting : s.link.state = .helloSent) :
    s.takeHello session grant =
      { s with
        link := { s.link with peerGrant := grant }
        pair := { s.pair with helloAckDue := true, answerSession := session } } := by
  rw [State.takeHello, waiting]

theorem takeHello_up {s : State} (session grant : Byte) (up : s.link.state = .up) :
    s.takeHello session grant = s.peerRestart session grant := by
  rw [State.takeHello, up]

/-- Settles O41: by the link's state, and by the session a HELLO_ACK answers. -/
theorem handshakeFramesTaken : Obligations.HandshakeFramesTaken := by
  unfold Obligations.HandshakeFramesTaken
  refine ⟨fun s session grant running hunt => ⟨fun idle => ?_, fun waiting => ?_, fun up => ?_⟩,
    fun s session grant running hunt => ⟨fun waiting same => ?_, fun other => ?_⟩⟩
  · rw [exec_helloTaken running hunt, takeHello_ignored session grant idle]
  · rw [exec_helloTaken running hunt, takeHello_helloSent session grant waiting]
  · rw [exec_helloTaken running hunt, takeHello_up session grant up]
    rfl
  · rw [exec_helloAckTaken running hunt, State.takeHelloAck, if_pos ⟨waiting, same⟩]
    rfl
  · have ignored : ¬(s.link.state = .helloSent ∧ session = s.link.session) := fun ⟨waiting, same⟩ =>
      other.elim (· waiting) (· same)
    rw [exec_helloAckTaken running hunt, State.takeHelloAck, if_neg ignored]

/-! ## CRD, and frames outside UP (R146, R162; O47) -/

theorem takeAck_ignored {s : State} (next grant : Byte) (notUp : s.link.state ≠ .up) : s.takeAck next grant = s :=
  if_neg notUp

theorem takeNak_ignored {s : State} (next grant : Byte) (notUp : s.link.state ≠ .up) : s.takeNak next grant = s :=
  if_neg notUp

theorem takeEvt_ignored {s : State} (seq : Byte) (channel : Fin 16) (count : Byte) (payload : Payload)
    (notUp : s.link.state ≠ .up) : s.takeEvt seq channel count payload = s :=
  if_neg notUp

/-- Settles O47: CRD in UP, the four kinds outside it, and the credit's definition. -/
theorem creditTakenAndFramesIgnored : Obligations.CreditTakenAndFramesIgnored := by
  unfold Obligations.CreditTakenAndFramesIgnored
  refine fun s seq grant running hunt => ⟨fun up => ?_, fun notUp => ⟨?_, ?_, ?_, fun channel count payload => ?_⟩, rfl⟩
  · rw [exec_crdTaken running hunt, State.takeCrd, if_pos up]
    rfl
  · rw [exec_crdTaken running hunt, State.takeCrd, if_neg notUp]
  · rw [exec_ackTaken running hunt, takeAck_ignored seq grant notUp]
  · rw [exec_nakTaken running hunt, takeNak_ignored seq grant notUp]
  · rw [exec_evtTaken running hunt, takeEvt_ignored seq channel count payload notUp]

/-! ## ACK and NAK in UP (R164, R166, R167; O46) -/

theorem takeAck_grantOnly {s : State} {next : Byte} (grant : Byte) (up : s.link.state = .up)
    (none : s.transmitter.distance next = 0 ∨ s.transmitter.sent < s.transmitter.distance next) :
    s.takeAck next grant = s.setPeerGrant grant := by
  rw [State.takeAck, if_pos up]
  exact if_pos none

/-- The re-arms that the k oldest records of s, freed, set off in x (R11, R24). -/
def State.rearmFreed (s x : State) (k : Nat) : State := x.followUps (x.lineNotices (s.transmitter.oldestSources k))

theorem rearmFreed_zero (s x : State) : s.rearmFreed x 0 = x := followUps_nil x

theorem takeAck_frees {s : State} {next : Byte} {k : Nat} (grant : Byte) (up : s.link.state = .up)
    (distance : s.transmitter.distance next = k) (some : 1 ≤ k) (all : k ≤ s.transmitter.sent) :
    s.takeAck next grant =
      s.rearmFreed
        ((s.setPeerGrant grant).setTransmitter { s.transmitter.acknowledged k s.params.timeout with retry := 0 }) k := by
  subst distance
  rw [State.takeAck, if_pos up]
  exact if_neg (by omega)

theorem takeNak_grantOnly {s : State} {next : Byte} (grant : Byte) (up : s.link.state = .up)
    (far : s.transmitter.sent < s.transmitter.distance next) : s.takeNak next grant = s.setPeerGrant grant := by
  rw [State.takeNak, if_pos up]
  exact if_pos far

/-- The Transmitter once the k oldest records are acknowledged, if there are any. -/
def Transmitter.freed (t : Transmitter) (k : Nat) (timeout : Word) : Transmitter :=
  if k = 0 then t else t.acknowledged k timeout

theorem queue_freed (t : Transmitter) (k : Nat) (timeout : Word) : (t.freed k timeout).queue = t.queue.drop k := by
  unfold Transmitter.freed
  split
  · next zero => rw [zero, List.drop_zero]
  · rfl

/-- What the mark and the timer are after is set beside. -/
theorem freed_restarted (t : Transmitter) (k : Nat) (timeout : Word) (mark : Option Byte) :
    { t.freed k timeout with retry := satFin (t.freed k timeout).retry, mark := mark, timer := .stopped } =
      { t with queue := t.queue.drop k, retry := satFin t.retry, mark := mark, timer := .stopped } := by
  unfold Transmitter.freed
  split
  · next zero => rw [zero, List.drop_zero]
  · rfl

theorem takeNak_near {s : State} {next : Byte} {k : Nat} (grant : Byte) (up : s.link.state = .up)
    (distance : s.transmitter.distance next = k) (all : k ≤ s.transmitter.sent) :
    s.takeNak next grant =
      s.rearmFreed
        (if (s.transmitter.freed k s.params.timeout).sent = 0 then
          (s.setPeerGrant grant).setTransmitter (s.transmitter.freed k s.params.timeout)
         else
          (s.setPeerGrant grant).startResend
            { s.transmitter.freed k s.params.timeout with
              retry := satFin (s.transmitter.freed k s.params.timeout).retry }
            (some next)) k := by
  subst distance
  rw [State.takeNak, if_pos up]
  exact if_neg (by omega)

/-- Settles O46: by how many records are acknowledged and whether some remain sent. -/
theorem ackAndNakResults : Obligations.AckAndNakResults := by
  unfold Obligations.AckAndNakResults
  intro s next grant running hunt up t oldest k granted kept left newOldest mark timer rearms
  have distance : s.transmitter.distance next = k := rfl
  have remain : (s.transmitter.freed k s.params.timeout).sent = left := by
    rw [Transmitter.sent, queue_freed]
  refine ⟨fun none => ?_, fun some all => ?_, fun far => ?_, fun zero idle => ?_, fun all more => ?_, fun some all none => ?_⟩
  · rw [exec_ackTaken running hunt, takeAck_grantOnly grant up none]
    rfl
  · rw [exec_ackTaken running hunt, takeAck_frees grant up distance some all]
    rfl
  · rw [exec_nakTaken running hunt, takeNak_grantOnly grant up far]
    rfl
  · have none : left = 0 := by
      simp only [left, kept, zero, List.drop_zero]
      exact idle
    rw [exec_nakTaken running hunt, takeNak_near grant up distance (by omega), if_pos (remain.trans none), zero,
      rearmFreed_zero]
    rfl
  · rw [exec_nakTaken running hunt, takeNak_near grant up distance all, if_neg (by omega)]
    refine congrArg (fun t' => Host.Outcome.next (rearms
      { granted with transmitter := t', pair := s.pair.disarmed })) ?_
    exact freed_restarted t k s.params.timeout (.some next)
  · rw [exec_nakTaken running hunt, takeNak_near grant up distance all, if_pos (remain.trans none)]
    have acknowledged : s.transmitter.freed k s.params.timeout = s.transmitter.acknowledged k s.params.timeout :=
      if_neg (by omega)
    rw [acknowledged]
    rfl

/-! ## EVT in UP (R171 to R174; O48) -/

theorem takeEvt_inOrder {s : State} (channel : Fin 16) (count : Byte) (payload : Payload) (up : s.link.state = .up)
    (free : s.heldCount .linkReserve < s.pool.linkReserve.toNat) :
    s.takeEvt s.receiver.expected channel count payload = s.deliverEvt channel count payload := by
  rw [State.takeEvt, if_pos up, if_pos rfl, if_pos free]

theorem takeEvt_overrun {s : State} (channel : Fin 16) (count : Byte) (payload : Payload) (up : s.link.state = .up)
    (full : ¬s.heldCount .linkReserve < s.pool.linkReserve.toNat) :
    s.takeEvt s.receiver.expected channel count payload =
      (s.setFault .creditOverrun).raise 2 4 (s.link.session.setWidth 16) := by
  rw [State.takeEvt, if_pos up, if_pos rfl, if_neg full]
  rfl

theorem takeEvt_outOfOrder {s : State} {seq : Byte} (channel : Fin 16) (count : Byte) (payload : Payload)
    (up : s.link.state = .up) (away : 1 ≤ (s.receiver.expected - seq).toNat) :
    s.takeEvt seq channel count payload = s.evtOutOfOrder seq := by
  have other : seq ≠ s.receiver.expected := by
    rintro rfl
    simp at away
  rw [State.takeEvt, if_pos up, if_neg other]

theorem growGrantBesideAck_due {s : State} (due : s.pair.ackDue = true ∨ s.pair.nakDue = true ∨ s.pair.crdDue = true) :
    s.growGrantBesideAck = { s with receiver := { s.receiver with gOut := s.receiver.gOut + 1 } } := by
  unfold State.growGrantBesideAck
  refine if_neg ?_
  obtain h | h | h := due <;> simp [h]

/-- Only whether a CRD becomes due, and the counter of free values, is open (log 7). -/
theorem growGrantBesideAck_eq (s : State) :
    ∃ crd n, s.growGrantBesideAck =
      { s with
        receiver := { s.receiver with gOut := s.receiver.gOut + 1 }
        pair := { s.pair with crdDue := crd }
        choices := n } := by
  unfold State.growGrantBesideAck
  dsimp only
  split
  · exact ⟨_, _, rfl⟩
  · exact ⟨s.pair.crdDue, s.choices, rfl⟩

/-- s with its next EVT frame acknowledged as the one expected. -/
def State.withEvtAccepted (s : State) : State :=
  { s with
    receiver := { s.receiver with expected := s.receiver.expected + 1, nakFlag := false }
    pair := { s.pair with ackDue := true } }

section
variable {s : State} {channel : Fin 16} {count : Byte} {payload : Payload} {after : State × ArrivalOutcome}
  (arrival : s.resolve ⟨channelSource channel, payload, count⟩ = after)
include arrival

theorem deliverEvt_slot (takes : after.2.takesSlot = true) :
    s.deliverEvt channel count payload = after.1.withEvtAccepted := by
  rw [State.deliverEvt, arrival]
  exact congrArg State.withEvtAccepted (if_pos takes)

theorem deliverEvt_noSlot (none : after.2.takesSlot = false) :
    s.deliverEvt channel count payload = after.1.growGrantBesideAck.withEvtAccepted := by
  rw [State.deliverEvt, arrival]
  exact congrArg State.withEvtAccepted (if_neg (by simp [none]))

end

/-- An arrival leaves the Receiver and the pair. -/
theorem resolve_receiver_pair (s : State) (a : Arrival) :
    (s.resolve a).1.receiver = s.receiver ∧ (s.resolve a).1.pair = s.pair := by
  obtain ⟨_, _, _, _, _, same⟩ := resolve_eq s a
  rw [same]
  exact ⟨rfl, rfl⟩

/-- Settles O48: by the frame's place in the sequence and whether a slot is free. -/
theorem eventFramesTaken : Obligations.EventFramesTaken := by
  unfold Obligations.EventFramesTaken
  refine ⟨fun s seq channel count payload running hunt up => ?_, fun s =>
    ⟨growGrant_of_due, growGrant_of_not_due⟩⟩
  intro free after d done
  have taken {t : State} (same : s.takeEvt seq channel count payload = t) : done t := by
    rw [← same]
    exact exec_evtTaken running hunt seq channel count payload
  have arrival : s.resolve ⟨channelSource channel, payload, count⟩ = after := rfl
  obtain ⟨receiver, pair⟩ : after.1.receiver = s.receiver ∧ after.1.pair = s.pair := resolve_receiver_pair s _
  refine ⟨fun same isFree takes => ?_, fun same isFree none => ?_, fun same full => ?_, fun low high => ?_,
    fun gap noted => ?_, fun gap fresh => ?_⟩
  · subst same
    refine taken ((takeEvt_inOrder channel count payload up isFree).trans ?_)
    rw [deliverEvt_slot arrival takes, ← receiver, ← pair]
    rfl
  · subst same
    refine ⟨after.1.growGrantBesideAck.withEvtAccepted, taken ?_, ?_, fun due => ?_⟩
    · rw [takeEvt_inOrder channel count payload up isFree, deliverEvt_noSlot arrival none]
    · obtain ⟨crd, n, grown⟩ := growGrantBesideAck_eq after.1
      rw [grown, ← receiver, ← pair]
      rfl
    · rw [← pair] at due ⊢
      rw [growGrantBesideAck_due due]
      rfl
  · subst same
    exact taken (takeEvt_overrun channel count payload up full)
  · refine taken ((takeEvt_outOfOrder channel count payload up low).trans ?_)
    exact if_pos ⟨low, high⟩
  · refine taken ((takeEvt_outOfOrder channel count payload up (by omega)).trans ?_)
    rw [State.evtOutOfOrder, if_neg (by omega), if_pos noted]
  · refine taken ((takeEvt_outOfOrder channel count payload up (by omega)).trans ?_)
    rw [State.evtOutOfOrder, if_neg (by omega), if_neg (by simp [fresh])]

end Sys2Proof.Machine
end

section
/-!
PROOF. The Event Link: the frame logic byte by byte (O49, O51).
-/
namespace Sys2Proof.Machine

/-! ## Words and frames back from their bytes (R143, R201, R202) -/

theorem wordOf_halves (w : Word) : wordOf (lowHalf w) (highHalf w) = w :=
  BitVec.extractLsb'_append_extractLsb' (len := 8) (w := 8)

theorem setWidth_channel (channel : BitVec 4) : (channel.setWidth 8).toNat ≤ 15 := by
  have := channel.isLt
  simp only [BitVec.toNat_setWidth]
  omega

theorem setWidth_setWidth_channel (channel : BitVec 4) : (channel.setWidth 8).setWidth 4 = channel := by bv_omega

section
variable {channel : Byte} (low : channel.toNat ≤ 15) (seq count n : Byte)
include low

theorem parseCovered_absent :
    parseCovered [0x21, seq, channel, count, n] = some (.evt seq (channel.setWidth 4) count .absent) :=
  if_pos low

theorem parseCovered_one (l h : Byte) :
    parseCovered [0x21, seq, channel, count, n, l, h] =
      some (.evt seq (channel.setWidth 4) count (.one (wordOf l h))) :=
  if_pos low

theorem parseCovered_two (l h m i : Byte) :
    parseCovered [0x21, seq, channel, count, n, l, h, m, i] =
      some (.evt seq (channel.setWidth 4) count (.two (wordOf l h) (wordOf m i))) :=
  if_pos low

end

theorem parseCovered_covered (f : Frame) : parseCovered f.covered = some f := by
  cases f with
  | hello _ _ | helloAck _ _ | ack _ _ | nak _ _ | crd _ => rfl
  | evt seq channel count payload =>
    have low := setWidth_channel channel
    rw [Frame.covered_evt]
    cases payload with
    | absent =>
      refine (parseCovered_absent low seq count _).trans ?_
      rw [setWidth_setWidth_channel]
    | one w =>
      refine (parseCovered_one low seq count _ _ _).trans ?_
      rw [setWidth_setWidth_channel, wordOf_halves]
    | two w v =>
      refine (parseCovered_two low seq count _ _ _ _ _).trans ?_
      rw [setWidth_setWidth_channel, wordOf_halves, wordOf_halves]

/-- No frame has a channel above 15 (R202). -/
theorem parseCovered_highChannel {x y z n : Byte} {words : List Byte} (high : 15 < y.toNat) :
    parseCovered (0x21 :: x :: y :: z :: n :: words) = none :=
  if_neg (Nat.not_le.mpr high)

/-! ## Kinds and the ends of bodies (R143, R145) -/

theorem kindOf_isSome_iff (b : Byte) :
    (kindOf b).isSome = true ↔ b = 0x11 ∨ b = 0x12 ∨ b = 0x21 ∨ b = 0x31 ∨ b = 0x32 ∨ b = 0x33 := by
  unfold kindOf
  repeat' split
  all_goals grind

/-- The kinds whose body is two bytes. -/
def twoByteKinds : List Byte := [0x11, 0x12, 0x31, 0x32]

theorem mem_twoByteKinds {k : Byte} : k ∈ twoByteKinds ↔ k = 0x11 ∨ k = 0x12 ∨ k = 0x31 ∨ k = 0x32 := by
  simp [twoByteKinds]

theorem bodyComplete_twoBytes {k : Byte} (two : k ∈ twoByteKinds) (body : List Byte) :
    bodyComplete (k :: body) = decide (body.length = 2) := by
  obtain rfl | rfl | rfl | rfl := mem_twoByteKinds.mp two <;> rfl

theorem badPaylen_twoBytes {k : Byte} (two : k ∈ twoByteKinds) (body : List Byte) : badPaylen (k :: body) = false := by
  have notEvt : kindOf k ≠ some .evt := by
    obtain rfl | rfl | rfl | rfl := mem_twoByteKinds.mp two <;> decide
  unfold badPaylen
  split
  · next same =>
    cases same
    simp [notEvt]
  · rfl

theorem bodyComplete_evt_short {body : List Byte} (short : body.length < 4) : bodyComplete (0x21 :: body) = false := by
  match body with
  | [] | [_] | [_, _] | [_, _, _] => rfl
  | _ :: _ :: _ :: _ :: _ => simp only [List.length_cons] at short; omega

theorem bodyComplete_evt (x y z n : Byte) (words : List Byte) :
    bodyComplete (0x21 :: x :: y :: z :: n :: words) = decide (words.length = 2 * n.toNat) := rfl

theorem badPaylen_evt (x y z n : Byte) : badPaylen [0x21, x, y, z, n] = decide (2 < n.toNat) := rfl

theorem badPaylen_length {held : List Byte} (length : held.length ≠ 5) : badPaylen held = false := by
  unfold badPaylen
  split
  · simp at length
  · rfl

/-! ## A byte at the frame logic (R145) -/

theorem take_body_bad {held : List Byte} {b : Byte} (bad : badPaylen (held ++ [b]) = true) :
    (FrameLogic.body held).take b = .discard :=
  if_pos bad

theorem take_body_complete {held : List Byte} {b : Byte} (good : badPaylen (held ++ [b]) = false)
    (complete : bodyComplete (held ++ [b]) = true) :
    (FrameLogic.body held).take b = .advance (.check (held ++ [b]) none) :=
  (if_neg (by simp [good])).trans (if_pos complete)

theorem take_body_more {held : List Byte} {b : Byte} (good : badPaylen (held ++ [b]) = false)
    (incomplete : bodyComplete (held ++ [b]) = false) :
    (FrameLogic.body held).take b = .advance (.body (held ++ [b])) :=
  (if_neg (by simp [good])).trans (if_neg (by simp [incomplete]))

theorem take_twoBytes_first {k : Byte} (two : k ∈ twoByteKinds) (b : Byte) :
    (FrameLogic.body [k]).take b = .advance (.body [k, b]) :=
  take_body_more (badPaylen_twoBytes two _) (bodyComplete_twoBytes two _)

theorem take_twoBytes_second {k : Byte} (two : k ∈ twoByteKinds) (x b : Byte) :
    (FrameLogic.body [k, x]).take b = .advance (.check [k, x, b] none) :=
  take_body_complete (badPaylen_twoBytes two _) (bodyComplete_twoBytes two _)

theorem take_crd (b : Byte) : (FrameLogic.body [0x33]).take b = .advance (.check [0x33, b] none) := rfl

theorem take_evt_header {held : List Byte} (short : held.length < 3) (b : Byte) :
    (FrameLogic.body (0x21 :: held)).take b = .advance (.body (0x21 :: held ++ [b])) :=
  take_body_more (badPaylen_length (by simp; omega)) (bodyComplete_evt_short (by simp; omega))

theorem take_evt_noPayload (x y z : Byte) :
    (FrameLogic.body [0x21, x, y, z]).take 0 = .advance (.check [0x21, x, y, z, 0] none) := rfl

theorem take_evt_payload {x y z b : Byte} (words : b = 1 ∨ b = 2) :
    (FrameLogic.body [0x21, x, y, z]).take b = .advance (.body [0x21, x, y, z, b]) := by
  obtain rfl | rfl := words <;> rfl

theorem take_evt_badPaylen {x y z b : Byte} (bad : 2 < b.toNat) :
    (FrameLogic.body [0x21, x, y, z]).take b = .discard :=
  take_body_bad (decide_eq_true bad)

theorem take_evt_lastWordByte {x y z n : Byte} {words : List Byte} (last : words.length + 1 = 2 * n.toNat) (b : Byte) :
    (FrameLogic.body (0x21 :: x :: y :: z :: n :: words)).take b =
      .advance (.check (0x21 :: x :: y :: z :: n :: words ++ [b]) none) :=
  take_body_complete (badPaylen_length (by simp)) (decide_eq_true (by simpa using last))

theorem take_evt_wordByte {x y z n : Byte} {words : List Byte} (more : words.length + 1 < 2 * n.toNat) (b : Byte) :
    (FrameLogic.body (0x21 :: x :: y :: z :: n :: words)).take b =
      .advance (.body (0x21 :: x :: y :: z :: n :: words ++ [b])) :=
  take_body_more (badPaylen_length (by simp)) (decide_eq_false (by simpa using Nat.ne_of_lt more))

theorem take_check_wrong {held : List Byte} {low b : Byte} (wrong : wordOf low b ≠ crc held) :
    (FrameLogic.check held (some low)).take b = .discard :=
  if_neg wrong

theorem take_check_good (f : Frame) :
    (FrameLogic.check f.covered (some (lowHalf (crc f.covered)))).take (highHalf (crc f.covered)) = .good f := by
  rw [FrameLogic.take, if_pos (wordOf_halves _), parseCovered_covered]

theorem take_check_noFrame {held : List Byte} (low b : Byte) (none : parseCovered held = none) :
    (FrameLogic.check held (some low)).take b = .discard := by
  rw [FrameLogic.take, none]
  simp

/-! ## What a byte does (R145; O49) -/

/-- The state with the frame logic at l. -/
def State.setLogic (s : State) (l : FrameLogic) : State := { s with receiver := { s.receiver with logic := l } }

theorem exec_byteReceived {s : State} (b : Byte) (running : s.inReset = false) :
    exec (.byteReceived b) s = .next (s.receiveByte b) :=
  whileRunning_running s (fun s => s.receiveByte b) running

theorem receiveByte_advance {s : State} {b : Byte} {l : FrameLogic} (advances : s.receiver.logic.take b = .advance l) :
    s.receiveByte b = s.setLogic l := by
  rw [State.receiveByte, advances]
  rfl

theorem receiveByte_good {s : State} {b : Byte} {f : Frame} (good : s.receiver.logic.take b = .good f) :
    s.receiveByte b = s.takeFrame f := by
  rw [State.receiveByte, good]

theorem receiveByte_discard {s : State} {b : Byte} (bad : s.receiver.logic.take b = .discard) :
    s.receiveByte b = s.discardFrame := by
  rw [State.receiveByte, bad]

theorem exec_frameDiscarded {s : State} (d : Damage) (running : s.inReset = false) :
    exec (.frameDiscarded d) s = .next (s.damage d) :=
  whileRunning_running s (fun s => s.damage d) running

/-- Settles O49: each item is one equation of `FrameLogic.take`. -/
theorem receivedBytes : Obligations.ReceivedBytes := by
  unfold Obligations.ReceivedBytes
  refine ⟨fun s b running => ?_, fun s d running damaged => ?_⟩
  · intro goes lost discarded kind
    have advance {l l' : FrameLogic} (logic : s.receiver.logic = l) (takes : l.take b = .advance l') : goes l' := by
      subst logic
      exact (exec_byteReceived b running).trans (congrArg _ (receiveByte_advance takes))
    have discard {l : FrameLogic} (logic : s.receiver.logic = l) (takes : l.take b = .discard) : discarded := by
      subst logic
      refine ⟨?_, ?_⟩
      · exact (exec_byteReceived b running).trans (congrArg _ (receiveByte_discard takes))
      · exact (exec_frameDiscarded _ running).trans (congrArg _ (if_pos takes))
    refine ⟨fun hunt sync => ?_, fun hunt other => ?_, fun kindNext known => ?_, fun kindNext unknown => ?_,
      fun k two body => ?_, fun k x two body => ?_, fun body => ?_, fun held short body => ?_, fun x y z body => ?_,
      fun x y z n words body => ?_, fun held check => ?_, fun held low check wrong => ?_, fun f check last => ?_,
      fun x y z n words low check high => ?_⟩
    · exact advance hunt (congrArg ByteResult.advance (if_pos sync))
    · exact advance hunt (congrArg ByteResult.advance (if_neg other))
    · exact advance kindNext (if_pos ((kindOf_isSome_iff b).mpr known))
    · exact discard kindNext (if_neg fun known => unknown ((kindOf_isSome_iff b).mp known))
    · exact advance body (take_twoBytes_first (mem_twoByteKinds.mpr two) b)
    · exact advance body (take_twoBytes_second (mem_twoByteKinds.mpr two) x b)
    · exact advance body (take_crd b)
    · exact advance body (take_evt_header short b)
    · exact ⟨fun zero => advance body (zero ▸ take_evt_noPayload x y z),
        fun words => advance body (take_evt_payload words), fun bad => discard body (take_evt_badPaylen bad)⟩
    · exact ⟨fun last => advance body (take_evt_lastWordByte last b), fun more => advance body (take_evt_wordByte more b)⟩
    · exact advance check rfl
    · exact discard check (take_check_wrong wrong)
    · subst last
      exact (exec_byteReceived _ running).trans (congrArg _ (receiveByte_good (check ▸ take_check_good f)))
    · exact discard check (take_check_noFrame low b (parseCovered_highChannel high))
  · rw [exec_frameDiscarded d running]
    refine ⟨fun inFrame => ?_, fun hunting => ?_⟩
    · obtain rfl | rfl := damaged <;> exact congrArg _ (if_neg inFrame)
    · obtain rfl | rfl := damaged <;> exact congrArg _ (if_pos hunting)

/-! ## A whole frame, byte by byte (O51) -/

theorem receive_cons {s t : State} {b : Byte} {bytes : List Byte} {l l' : FrameLogic} (takes : l.take b = .advance l')
    (rest : bytes.foldl State.receiveByte (s.setLogic l') = t) :
    (b :: bytes).foldl State.receiveByte (s.setLogic l) = t := by
  rw [List.foldl_cons, receiveByte_advance (s := s.setLogic l) takes]
  exact rest

theorem receive_append {s t u : State} {front back : List Byte} (first : front.foldl State.receiveByte s = t)
    (second : back.foldl State.receiveByte t = u) : (front ++ back).foldl State.receiveByte s = u := by
  rw [List.foldl_append, first, second]

theorem take_kind (f : Frame) : FrameLogic.kind.take f.kind.code = .advance (.body [f.kind.code]) := by
  cases f <;> rfl

theorem receive_twoBytes (s : State) {k : Byte} (two : k ∈ twoByteKinds) (x y : Byte) :
    [x, y].foldl State.receiveByte (s.setLogic (.body [k])) = s.setLogic (.check [k, x, y] none) :=
  receive_cons (take_twoBytes_first two x) (receive_cons (take_twoBytes_second two x y) rfl)

/-- The bytes of an EVT's seq, channel and count. -/
theorem receive_evt_header (s : State) (x y z : Byte) :
    [x, y, z].foldl State.receiveByte (s.setLogic (.body [0x21])) = s.setLogic (.body [0x21, x, y, z]) :=
  receive_cons (take_evt_header (held := []) (by simp) x)
    (receive_cons (take_evt_header (held := [x]) (by simp) y)
      (receive_cons (take_evt_header (held := [x, y]) (by simp) z) rfl))

/-- The payload's length and words. -/
theorem receive_evt_payload (s : State) (x y z : Byte) (payload : Payload) :
    (BitVec.ofNat 8 (payloadLen payload) :: payloadBytes payload).foldl State.receiveByte
        (s.setLogic (.body [0x21, x, y, z])) =
      s.setLogic
        (.check ([0x21, x, y, z, BitVec.ofNat 8 (payloadLen payload)] ++ payloadBytes payload) none) := by
  cases payload with
  | absent => exact receive_cons (take_evt_noPayload x y z) rfl
  | one w =>
    refine receive_cons (take_evt_payload (.inl rfl)) ?_
    refine receive_cons (take_evt_wordByte (words := []) (by simp [payloadLen]) _) ?_
    exact receive_cons (take_evt_lastWordByte (words := [_]) (by simp [payloadLen]) _) rfl
  | two w v =>
    refine receive_cons (take_evt_payload (.inr rfl)) ?_
    refine receive_cons (take_evt_wordByte (words := []) (by simp [payloadLen]) _) ?_
    refine receive_cons (take_evt_wordByte (words := [_]) (by simp [payloadLen]) _) ?_
    refine receive_cons (take_evt_wordByte (words := [_, _]) (by simp [payloadLen]) _) ?_
    exact receive_cons (take_evt_lastWordByte (words := [_, _, _]) (by simp [payloadLen]) _) rfl

theorem receive_body (s : State) (f : Frame) :
    f.body.foldl State.receiveByte (s.setLogic (.body [f.kind.code])) = s.setLogic (.check f.covered none) := by
  cases f with
  | hello x y => exact receive_twoBytes s (mem_twoByteKinds.mpr (.inl rfl)) x y
  | helloAck x y => exact receive_twoBytes s (mem_twoByteKinds.mpr (.inr (.inl rfl))) x y
  | ack x y => exact receive_twoBytes s (mem_twoByteKinds.mpr (.inr (.inr (.inl rfl)))) x y
  | nak x y => exact receive_twoBytes s (mem_twoByteKinds.mpr (.inr (.inr (.inr rfl)))) x y
  | crd x => exact receive_cons (take_crd x) rfl
  | evt seq channel count payload =>
    exact receive_append (front := [seq, channel.setWidth 8, count])
      (back := BitVec.ofNat 8 (payloadLen payload) :: payloadBytes payload) (receive_evt_header s _ _ _)
      (receive_evt_payload s _ _ _ payload)

theorem takeFrame_setLogic (s : State) (l : FrameLogic) (f : Frame) : (s.setLogic l).takeFrame f = s.takeFrame f := by
  cases f <;> rfl

theorem receive_crc (s : State) (f : Frame) :
    [lowHalf (crc f.covered), highHalf (crc f.covered)].foldl State.receiveByte (s.setLogic (.check f.covered none)) =
      s.takeFrame f :=
  receive_cons (l' := .check f.covered (some (lowHalf (crc f.covered)))) rfl
    ((receiveByte_good (take_check_good f)).trans (takeFrame_setLogic s _ f))

/-- SYNC, KIND, body and CRC, one after another. -/
theorem receive_frame {s : State} (f : Frame) (hunt : s.receiver.logic = .hunt) :
    f.bytes.foldl State.receiveByte s = s.takeFrame f := by
  have sync : [0xB4].foldl State.receiveByte s = s.setLogic .kind := receiveByte_advance (hunt ▸ rfl)
  have covered : f.covered.foldl State.receiveByte (s.setLogic .kind) = s.setLogic (.check f.covered none) :=
    receive_cons (take_kind f) (receive_body s f)
  exact receive_append (receive_append sync covered) (receive_crc s f)

/-- Settles O51: byte by byte, and as one event. -/
theorem framesReceivedAsSent : Obligations.FramesReceivedAsSent := by
  unfold Obligations.FramesReceivedAsSent
  refine ⟨fun f s running hunt => ⟨fun b => exec_byteReceived b running, receive_frame f hunt⟩,
    fun s x y channel count payload running hunt => ?_⟩
  exact ⟨exec_received running hunt _, exec_received running hunt _, exec_received running hunt _,
    exec_received running hunt _, exec_received running hunt _, exec_received running hunt _⟩

end Sys2Proof.Machine
end

section
/-!
PROOF. The Event Link: entry into DOWN (O43).
-/
namespace Sys2Proof.Machine

/-! ## Line notices (R11, R24) -/

theorem nodup_eraseDups {α : Type} [BEq α] [LawfulBEq α] : ∀ l : List α, l.eraseDups.Nodup
  | [] => List.nodup_nil
  | a :: l => by
    rw [List.eraseDups_cons, List.nodup_cons]
    refine ⟨?_, nodup_eraseDups _⟩
    simp [List.mem_eraseDups]
  termination_by l => l.length
  decreasing_by
    have := List.length_filter_le (fun b => !b == a) l
    simp only [List.length_cons]
    omega

/-- A freed record of line n's source is noticed to the line. -/
def Noticed (s : State) (n : Line) : Prop :=
  s.outstanding (lineSource n) = 0 ∧ s.underPurge (lineSource n) = false

theorem mem_noticed_iff {s : State} {src : Source} {f : FollowUp} :
    ((lineOf src).bind fun n => if s.outstanding src = 0 && !s.underPurge src then some (.rearm n) else none) = some f ↔
      ∃ n, src = lineSource n ∧ f = .rearm n ∧ Noticed s n := by
  cases line : lineOf src with
  | none =>
    refine ⟨fun h => by simp at h, ?_⟩
    rintro ⟨n, rfl, -⟩
    simp [lineOf, lineSource] at line
  | some n =>
    obtain ⟨-, rfl⟩ := lineOf_eq_some line
    constructor
    · intro h
      simp only [Option.bind_some, Option.ite_none_right_eq_some, Option.some.injEq, Bool.and_eq_true,
        decide_eq_true_eq, Bool.not_eq_true'] at h
      exact ⟨n, rfl, h.2.symm, h.1⟩
    · rintro ⟨m, same, rfl, idle, free⟩
      obtain rfl : n = m := Fin.ext (Fin.mk.inj same)
      simp [idle, free]

theorem lineNotices_eq (s : State) (freed : List Source) :
    s.lineNotices freed = freed.eraseDups.filterMap fun src =>
      (lineOf src).bind fun n => if s.outstanding src = 0 && !s.underPurge src then some (.rearm n) else none := by
  unfold State.lineNotices
  refine filterMap_congr_mem fun src _ => ?_
  cases lineOf src <;> rfl

theorem mem_lineNotices {s : State} {freed : List Source} {f : FollowUp} :
    f ∈ s.lineNotices freed ↔ ∃ n, f = .rearm n ∧ lineSource n ∈ freed ∧ Noticed s n := by
  simp only [lineNotices_eq, List.mem_filterMap, List.mem_eraseDups, mem_noticed_iff]
  constructor
  · rintro ⟨src, mem, n, rfl, same, noticed⟩
    exact ⟨n, same, mem, noticed⟩
  · rintro ⟨n, same, mem, noticed⟩
    exact ⟨lineSource n, mem, n, rfl, same, noticed⟩

theorem nodup_lineNotices (s : State) (freed : List Source) : (s.lineNotices freed).Nodup := by
  rw [lineNotices_eq]
  refine nodup_filterMap (fun src src' f h h' => ?_) (nodup_eraseDups freed)
  obtain ⟨n, rfl, rfl, -⟩ := mem_noticed_iff.mp h
  obtain ⟨m, rfl, same, -⟩ := mem_noticed_iff.mp h'
  cases same
  rfl

/-- The lines re-armed by freed records of these sources (R24). -/
def State.rearmedBy (s : State) (freed : Source → Bool) : List Line :=
  (List.finRange 32).filter fun n =>
    freed (lineSource n) && s.outstanding (lineSource n) == 0 && !s.underPurge (lineSource n) && s.lineActive n

theorem mem_rearmedBy {s : State} {freed : Source → Bool} {n : Line} :
    n ∈ s.rearmedBy freed ↔ freed (lineSource n) = true ∧ Noticed s n ∧ s.lineActive n = true := by
  simp only [State.rearmedBy, Noticed, List.mem_filter, List.mem_finRange, true_and, Bool.and_eq_true, beq_iff_eq,
    Bool.not_eq_true', and_assoc]

theorem nodup_rearmedBy (s : State) (freed : Source → Bool) : (s.rearmedBy freed).Nodup :=
  (List.nodup_finRange 32).sublist List.filter_sublist

/-- Those notices that make an arrival, beside a raising, in a free order (log 6). -/
theorem followUps_notices_order (s : State) (freed : List Source) (i : Fin 4) (w0 w1 : Word) :
    ∃ order : List FollowUp,
      order.Perm ((s.rearmedBy fun src => freed.any (· == src)).map .rearm ++ [.raise i w0 w1]) ∧ ∃ n,
        s.followUps (s.lineNotices freed ++ [.raise i w0 w1]) =
          order.foldl (fun t f => followUp f t) { s with choices := n } := by
  obtain ⟨order, perm, n, run⟩ := followUps_order s (s.lineNotices freed ++ [.raise i w0 w1])
  refine ⟨order, perm.trans ?_, n, run⟩
  rw [List.filter_append]
  refine List.Perm.append ?_ (.of_eq rfl)
  refine (List.perm_ext_iff_of_nodup ((nodup_lineNotices s freed).sublist List.filter_sublist)
    (nodup_map_of_inj (fun _ _ _ _ same => FollowUp.rearm.inj same) (nodup_rearmedBy s _))).mpr fun f => ?_
  rw [List.mem_filter, mem_lineNotices, List.mem_map]
  constructor
  · rintro ⟨⟨m, rfl, mem, noticed⟩, pass⟩
    refine ⟨m, mem_rearmedBy.mpr ⟨List.any_eq_true.mpr ⟨_, mem, beq_self_eq_true _⟩, noticed, ?_⟩, rfl⟩
    exact (Bool.and_eq_true_iff.mp pass).1
  · rintro ⟨m, rearmed, rfl⟩
    obtain ⟨any, noticed, active⟩ := mem_rearmedBy.mp rearmed
    obtain ⟨src, mem, same⟩ := List.any_eq_true.mp any
    refine ⟨⟨m, rfl, beq_iff_eq.mp same ▸ mem, noticed⟩, ?_⟩
    exact Bool.and_eq_true_iff.mpr ⟨active, beq_iff_eq.mpr noticed.1⟩

/-! ## The Forward Queue emptied (R176) -/

/-- What is diverted of a forwarded record. -/
def Forwarded.divertedRecord (f : Forwarded) : Option EventRecord :=
  f.record.snap.fallback.map fun b =>
    { f.record with
      retarget := some b
      declined := if f.record.declined.getLsbD b.val then 0 else f.record.declined }

theorem divertOrLose_some {s : State} {f : Forwarded} {r : EventRecord} (diverted : f.divertedRecord = some r) :
    s.divertOrLose f = s.insertTail r := by
  obtain ⟨b, fallback, rfl⟩ := Option.map_eq_some_iff.mp diverted
  rw [State.divertOrLose, fallback]
  exact congrArg s.insertTail (testDeclined_retarget rfl)

theorem divertOrLose_none {s : State} {f : Forwarded} (none : f.record.snap.fallback = none) :
    s.divertOrLose f = { s with faults := { s.faults with linkLost := satByte s.faults.linkLost } } := by
  rw [State.divertOrLose, none]

theorem min_satByte (b : Byte) (n : Nat) :
    BitVec.ofNat 8 (min 255 ((satByte b).toNat + n)) = BitVec.ofNat 8 (min 255 (b.toNat + (n + 1))) := by
  unfold satByte
  split
  · next top =>
    subst top
    congr 1
    change min 255 (255 + n) = min 255 (255 + (n + 1))
    omega
  · next below =>
    have less : b.toNat ≠ 255 := fun h => below (BitVec.eq_of_toNat_eq h)
    have bound := b.isLt
    have next : (b + 1).toNat = b.toNat + 1 := by
      rw [BitVec.toNat_add]
      exact Nat.mod_eq_of_lt (show b.toNat + 1 < 256 by omega)
    rw [next, Nat.add_assoc, Nat.add_comm 1 n]

theorem ofFn_queue (s : State) : (Vector.ofFn fun c : Class => s.queue c) = s.dispatcher.queues :=
  Vector.ext fun i lt => by rw [Vector.getElem_ofFn]; rfl

/-- The state with the records `diverted` at the tails of their class queues and `lost` records counted. -/
def State.withDiverted (s : State) (diverted : List EventRecord) (lost : Nat) : State :=
  { s with
    dispatcher :=
      { s.dispatcher with queues := Vector.ofFn fun c => s.queue c ++ diverted.filter fun r => r.cls == c }
    faults := { s.faults with linkLost := BitVec.ofNat 8 (min 255 (s.faults.linkLost.toNat + lost)) } }

theorem withDiverted_zero (s : State) : s.withDiverted [] 0 = s := by
  have count : BitVec.ofNat 8 (min 255 (s.faults.linkLost.toNat + 0)) = s.faults.linkLost := by
    have := s.faults.linkLost.isLt
    rw [Nat.add_zero, Nat.min_eq_right (by omega), BitVec.ofNat_toNat, BitVec.setWidth_eq]
  simp only [State.withDiverted, count, List.filter_nil, List.append_nil, ofFn_queue]

theorem withDiverted_insertTail (s : State) (r : EventRecord) (diverted : List EventRecord) (lost : Nat) :
    (s.insertTail r).withDiverted diverted lost = s.withDiverted (r :: diverted) lost := by
  have queues : (fun c : Class => (s.insertTail r).queue c ++ diverted.filter fun x => x.cls == c) =
      fun c => s.queue c ++ (r :: diverted).filter fun x => x.cls == c := by
    funext c
    rw [queue_insertTail, List.filter_cons]
    by_cases own : c = r.cls
    · simp [own]
    · simp [own, Ne.symm own]
  simp only [State.withDiverted, queues]
  rfl

/-- The queue's records, oldest first, each diverted or lost. -/
theorem foldl_divertOrLose (q : List Forwarded) (s : State) :
    q.foldl State.divertOrLose s =
      s.withDiverted (q.filterMap Forwarded.divertedRecord) (q.filter fun f => f.record.snap.fallback.isNone).length := by
  induction q generalizing s with
  | nil => exact (withDiverted_zero s).symm
  | cons f q ih =>
    rw [List.foldl_cons, ih]
    cases fallback : f.record.snap.fallback with
    | none =>
      have none : f.divertedRecord = none := by simp [Forwarded.divertedRecord, fallback]
      rw [divertOrLose_none fallback, List.filterMap_cons_none none, List.filter_cons_of_pos (by simp [fallback]),
        List.length_cons]
      simp only [State.withDiverted, min_satByte]
      rfl
    | some b =>
      obtain ⟨r, diverted⟩ : ∃ r, f.divertedRecord = some r := by simp [Forwarded.divertedRecord, fallback]
      rw [divertOrLose_some diverted, withDiverted_insertTail, List.filterMap_cons_some diverted,
        List.filter_cons_of_neg (by simp [fallback])]

/-! ## What arrivals keep while the link is DOWN (R35) -/

/-- The link is DOWN with this Transmitter, and LINK_DOWN is set. -/
structure DownWith (x : Transmitter) (s : State) : Prop where
  state : s.link.state = .down
  transmitter : s.transmitter = x
  flag : s.faultSet .linkDown = true

theorem DownWith.raise {x : Transmitter} {s : State} (h : DownWith x s) (i : Fin 4) (w0 w1 : Word) :
    DownWith x (s.raise i w0 w1) := by
  obtain ⟨_, _, _, same⟩ := raise_eq s i w0 w1
  rw [same]
  exact ⟨h.state, h.transmitter, h.flag⟩

theorem DownWith.setFault {x : Transmitter} {s : State} (h : DownWith x s) (f : FaultFlag) : DownWith x (s.setFault f) := by
  refine ⟨h.state, h.transmitter, ?_⟩
  rw [State.faultSet, getLsbD_setFault]
  exact Bool.or_eq_true_iff.mpr (.inl h.flag)

theorem DownWith.countOverflow {x : Transmitter} {s : State} (h : DownWith x s) (src : Source) :
    DownWith x (s.countOverflow src) := by
  unfold State.countOverflow
  dsimp only
  refine DownWith.raise (DownWith.setFault ?_ .overflow) _ _ _
  exact ⟨h.state, h.transmitter, h.flag⟩

theorem DownWith.place {x : Transmitter} {s : State} (h : DownWith x s) (a : Arrival) (k : Slot) :
    DownWith x (s.place a k).1 := by
  unfold State.place
  split
  · exact ⟨h.state, h.transmitter, h.flag⟩
  · rw [if_pos h.state]
    split <;> exact ⟨h.state, h.transmitter, h.flag⟩

theorem DownWith.resolve {x : Transmitter} {s : State} (h : DownWith x s) (a : Arrival) : DownWith x (s.resolve a).1 := by
  have placed : DownWith x (s.allocateOrOverflow a).1 := by
    unfold State.allocateOrOverflow
    split
    · split
      · exact h.place a _
      · exact h.countOverflow _
    · exact h.countOverflow _
  have merged (slot : Slot) (change : EventRecord → EventRecord) : DownWith x (s.changePending slot change) :=
    ⟨h.state, h.transmitter, h.flag⟩
  unfold State.resolve
  dsimp only
  split
  · exact h
  · split
    · exact h
    · split
      · exact h
      · split
        · exact merged _ _
        · exact merged _ _
        · exact placed

theorem DownWith.followUps {x : Transmitter} {s : State} (h : DownWith x s) (fs : List FollowUp) :
    DownWith x (s.followUps fs) := by
  refine followUps_keeps (DownWith x) (fun s n h => ⟨h.state, h.transmitter, h.flag⟩) (fun f s h => ?_) fs s h
  cases f with
  | rearm n =>
    unfold followUp
    dsimp only
    split
    · exact h.resolve _
    · exact h
  | raise i w0 w1 => exact h.raise i w0 w1
  | arrival a => exact h.resolve a

/-! ## Entry into DOWN (R156, R176; O43) -/

/-- The link, the pair and the Transmitter at the entry into DOWN. -/
def State.linkDown (s : State) (cause : DownCause) : State :=
  { s with
    link := { s.link with state := .down, timer := .stopped, downCause := cause }
    pair := s.pair.cancelled
    transmitter := { s.transmitter with queue := [], timer := .stopped, mark := none } }

/-- The sources of the records lost. -/
def Transmitter.lostSources (t : Transmitter) : List Source :=
  (t.queue.filter fun f => f.record.snap.fallback.isNone).map fun f => f.record.source

/-- The Forward Queue emptied into the class queues and the loss count. -/
def State.forwardDiverted (s : State) (cause : DownCause) : State :=
  s.transmitter.queue.foldl State.divertOrLose ((s.linkDown cause).setFault .linkDown)

theorem enterDown_eq (s : State) (cause : DownCause) :
    s.enterDown cause =
      (s.forwardDiverted cause).followUps
        ((s.forwardDiverted cause).lineNotices s.transmitter.lostSources ++
          [.raise 2 (BitVec.ofNat 16 cause.code) (s.link.session.setWidth 16)]) := rfl

theorem downWith_enterDown (s : State) (cause : DownCause) :
    DownWith (s.linkDown cause).transmitter (s.enterDown cause) := by
  rw [enterDown_eq]
  refine DownWith.followUps ?_ _
  rw [State.forwardDiverted, foldl_divertOrLose]
  refine ⟨rfl, rfl, ?_⟩
  change ((s.linkDown cause).setFault .linkDown).faultSet .linkDown = true
  rw [State.faultSet, getLsbD_setFault]
  simp

theorem lineNotices_nil (s : State) : s.lineNotices [] = [] := rfl

/-- Without a notice the raising of LINK is all that follows. -/
theorem enterDown_quiet {s : State} {cause : DownCause}
    (quiet : (s.forwardDiverted cause).lineNotices s.transmitter.lostSources = []) :
    s.enterDown cause =
      (s.forwardDiverted cause).raise 2 (BitVec.ofNat 16 cause.code) (s.link.session.setWidth 16) := by
  rw [enterDown_eq, quiet, List.nil_append, followUps_raise]

/-- Settles O43: what stays, the Forward Queue of none and one record, and the one of any length. -/
theorem entryIntoDown : Obligations.EntryIntoDown := by
  unfold Obligations.EntryIntoDown
  intro s cause t pair s1
  refine ⟨?_, fun empty => ?_, fun r b linkSeq one fallback declined => ?_, fun r linkSeq one none external => ?_, ?_⟩
  · obtain ⟨-, transmitter, flag⟩ := downWith_enterDown s cause
    obtain ⟨_, _, _, _, _, _, same⟩ := followUps_eq (s.forwardDiverted cause)
      ((s.forwardDiverted cause).lineNotices s.transmitter.lostSources ++
        [.raise 2 (BitVec.ofNat 16 cause.code) (s.link.session.setWidth 16)])
    rw [← enterDown_eq, State.forwardDiverted, foldl_divertOrLose] at same
    have whole : t = _ := same
    refine ⟨?_, ?_, transmitter, flag, ?_, ?_, ?_⟩ <;> rw [whole] <;> rfl
  · refine (enterDown_quiet (by simp [Transmitter.lostSources, empty, lineNotices_nil])).trans ?_
    rw [State.forwardDiverted, empty]
    rfl
  · have kept : (⟨r, linkSeq⟩ : Forwarded).divertedRecord = some { r with retarget := some b } := by
      simp [Forwarded.divertedRecord, fallback, ← declined]
    refine (enterDown_quiet (by simp [Transmitter.lostSources, one, fallback, lineNotices_nil])).trans ?_
    rw [State.forwardDiverted, one, List.foldl_cons, divertOrLose_some kept]
    rfl
  · have lost : s.transmitter.lostSources = [r.source] := by simp [Transmitter.lostSources, one, none]
    have quiet : (s.forwardDiverted cause).lineNotices s.transmitter.lostSources = [] := by
      rw [lost, lineNotices_singleton, lineOf_eq_none external]
      rfl
    refine (enterDown_quiet quiet).trans ?_
    rw [State.forwardDiverted, one, List.foldl_cons, divertOrLose_none none]
    rfl
  · intro diverted lost s2 rearmed
    have records : diverted = s.transmitter.queue.filterMap Forwarded.divertedRecord := by
      refine filterMap_congr_mem fun f _ => ?_
      unfold Forwarded.divertedRecord
      cases f.record.snap.fallback <;> rfl
    have emptied : s.forwardDiverted cause = s2 := by
      rw [State.forwardDiverted, foldl_divertOrLose, ← records]
      rfl
    have lines : (s2.rearmedBy fun src => s.transmitter.lostSources.any (· == src)) = rearmed := by
      refine List.filter_congr fun n _ => ?_
      simp only [Transmitter.lostSources, List.any_map]
      rfl
    obtain ⟨order, perm, n, run⟩ := followUps_notices_order s2 s.transmitter.lostSources 2
      (BitVec.ofNat 16 cause.code) (s.link.session.setWidth 16)
    refine ⟨order, lines ▸ perm, n, ?_⟩
    rw [← run, ← emptied]
    exact enterDown_eq s cause

end Sys2Proof.Machine
end

section
/-!
PROOF. The Event Link: start and stop (O40), the timers' expiries (O42), and the frames sent (O44, O45).
-/
namespace Sys2Proof.Machine

/-! ## LINK_START and LINK_STOP (R149, R150; O40) -/

theorem exec_linkStart {s : State} (page : Agent) (operand : Byte) (running : s.inReset = false)
    (idle : s.walking = false) : exec (.linkStart page operand) s = .next (s.linkStart page operand) :=
  whileRunning_takeCommand_idle 9 (State.linkStart page operand) running idle

theorem exec_linkStop {s : State} (page : Agent) (operand : Byte) (running : s.inReset = false)
    (idle : s.walking = false) : exec (.linkStop page operand) s = .next (s.linkStop page operand) :=
  whileRunning_takeCommand_idle 10 (State.linkStop page operand) running idle

/-- Settles O40: a start by the link's state, and a stop in any. -/
theorem linkStartAndStop : Obligations.LinkStartAndStop := by
  unfold Obligations.LinkStartAndStop
  refine ⟨fun s page operand running idle => ⟨fun stopped => ?_, fun started => ?_⟩, fun s page operand running idle => ?_⟩
  · rw [exec_linkStart page operand running idle, State.linkStart, if_pos stopped]
    rfl
  · have notStopped : ¬(s.link.state = .stopped ∨ s.link.state = .down) := by
      obtain h | h := started <;> simp [h]
    rw [exec_linkStart page operand running idle, State.linkStart, if_neg notStopped]
    rfl
  · rw [exec_linkStop page operand running idle]
    rfl

/-! ## Timer expiries (R151, R156, R168; O42) -/

theorem exec_helloIntervalExpiry {s : State} (running : s.inReset = false) :
    exec .helloIntervalExpiry s = .next s.helloExpiry :=
  whileRunning_running s State.helloExpiry running

theorem exec_ackTimerExpiry {s : State} (running : s.inReset = false) : exec .ackTimerExpiry s = .next s.ackExpiry :=
  whileRunning_running s State.ackExpiry running

section
variable {s : State} (up : s.link.state = .up) (expiring : s.transmitter.timer = .expiring)
include up expiring

theorem ackExpiry_exhausted (above : s.params.retries.toNat < (satFin s.transmitter.retry).val) :
    s.ackExpiry =
      (s.setTransmitter { s.transmitter with retry := satFin s.transmitter.retry, timer := .stopped }).enterDown
        .retriesExhausted := by
  rw [State.ackExpiry, if_pos ⟨expiring, up⟩]
  exact if_pos above

theorem ackExpiry_resends (within : (satFin s.transmitter.retry).val ≤ s.params.retries.toNat)
    (some : 0 < s.transmitter.sent) :
    s.ackExpiry =
      s.startResend { s.transmitter with retry := satFin s.transmitter.retry, timer := .stopped }
        (.some s.transmitter.oldestSent) := by
  rw [State.ackExpiry, if_pos ⟨expiring, up⟩]
  refine (if_neg (Nat.not_lt.mpr within)).trans ?_
  exact congrArg _ (if_neg (Nat.ne_of_gt some))

end

/-- Settles O42: by the attempts, and by the retry count. -/
theorem linkTimerExpiries : Obligations.LinkTimerExpiries := by
  unfold Obligations.LinkTimerExpiries
  refine ⟨fun s running waiting expiring => ⟨fun few => ?_, fun last => ?_⟩, fun s running up expiring => ?_⟩
  · rw [exec_helloIntervalExpiry running, State.helloExpiry, if_pos ⟨expiring, waiting⟩]
    exact congrArg _ (if_pos few)
  · rw [exec_helloIntervalExpiry running, State.helloExpiry, if_pos ⟨expiring, waiting⟩]
    exact congrArg _ (if_neg (by rw [last]; decide))
  · intro t retry
    refine ⟨fun within sent oldest first => ?_, fun above => ?_⟩
    · have named : s.transmitter.oldestSent = oldest := by rw [Transmitter.oldestSent, first, Option.getD_some]
      rw [exec_ackTimerExpiry running, ackExpiry_resends up expiring within sent, named]
      rfl
    · rw [exec_ackTimerExpiry running, ackExpiry_exhausted up expiring above]
      rfl

/-! ## The arbiter (R147, R163; O44) -/

theorem credit_pos_iff (s : State) :
    0 < s.credit ↔
      0 < (s.link.peerGrant - s.transmitter.firstSends).toNat ∧
        (s.link.peerGrant - s.transmitter.firstSends).toNat ≤ 16 := by
  unfold State.credit
  dsimp only
  split <;> omega

theorem evtDue_iff (s : State) :
    s.evtDue = true ↔ s.link.state = .up ∧
      (s.transmitter.mark.isSome = true ∨
        (s.transmitter.mark = none ∧ (∃ f ∈ s.transmitter.queue, f.linkSeq = none) ∧ s.transmitter.sent < 4 ∧
          0 < (s.link.peerGrant - s.transmitter.firstSends).toNat ∧
          (s.link.peerGrant - s.transmitter.firstSends).toNat ≤ 16)) := by
  have window : decide (s.transmitter.sent < Config.windowLimit) = true ↔ s.transmitter.sent < 4 := decide_eq_true_iff
  simp only [State.evtDue, State.firstSendAllowed, window, Bool.and_eq_true, Bool.or_eq_true, beq_iff_eq, decide_eq_true_eq,
    List.any_eq_true, Option.isNone_iff_eq_none, credit_pos_iff,
    and_assoc]

theorem starts_eq_true {s : State} {k : FrameKind} (free : s.pair.free = true) (next : s.nextRequest = some k) :
    s.starts k = true := by
  simp [State.starts, free, next]

/-- Settles O44: the requests in their order, and each control frame where it is next. -/
theorem arbiterAndControlFrames : Obligations.ArbiterAndControlFrames := by
  unfold Obligations.ArbiterAndControlFrames
  refine ⟨fun s => ⟨rfl, evtDue_iff s⟩, fun s running free => ?_⟩
  intro opening g
  have sends {c : Instr} {f : State → State} {t : State} {k : FrameKind} (next : s.nextRequest = some k)
      (row : exec c s = whileRunning s f) (sent : f s = if s.starts k then t else s) : exec c s = .next t := by
    rw [row, whileRunning_running s f running, sent, if_pos (starts_eq_true free next)]
  exact ⟨fun next => sends next (f := State.sendHello) rfl rfl, fun next => sends next (f := State.sendHelloAck) rfl rfl,
    fun next => sends next (f := State.sendAck) rfl rfl, fun next => sends next (f := State.sendNak) rfl rfl,
    fun next => sends next (f := State.sendCrd) rfl rfl⟩

/-! ## EVT frames and the ends of frames (R151, R163 to R165; O45) -/

theorem markFirstQueued_append {front : List Forwarded} (sent : ∀ f ∈ front, f.linkSeq ≠ none) (seq : Byte)
    (r : EventRecord) (back : List Forwarded) :
    markFirstQueued seq (front ++ ⟨r, none⟩ :: back) = front ++ ⟨r, some seq⟩ :: back := by
  induction front with
  | nil => rfl
  | cons f front ih =>
    have head : ¬f.linkSeq.isNone = true := by
      rw [Option.isNone_iff_eq_none]
      exact sent f List.mem_cons_self
    refine (if_neg head).trans (congrArg (f :: ·) (ih fun g mem => sent g (List.mem_cons_of_mem _ mem)))

theorem find?_firstQueued {front : List Forwarded} (sent : ∀ f ∈ front, f.linkSeq ≠ none) (r : EventRecord)
    (back : List Forwarded) :
    (front ++ ⟨r, none⟩ :: back).find? (·.linkSeq.isNone) = some ⟨r, none⟩ := by
  have none : front.find? (·.linkSeq.isNone) = none :=
    List.find?_eq_none.mpr fun f mem => by
      rw [Option.isNone_iff_eq_none]
      exact sent f mem
  rw [List.find?_append, none]
  rfl

theorem evtFrame_link {r : EventRecord} {channel : BitVec 4} (route : r.snap.targets = .link channel) (seq : Byte) :
    r.evtFrame seq = .evt seq channel r.count r.payload := by
  rw [EventRecord.evtFrame, EventRecord.channel, route]

theorem sendFirst_eq {s : State} {f : Forwarded} (starts : s.starts .evt = true) (noMark : s.transmitter.mark = none)
    (first : s.transmitter.queue.find? (·.linkSeq.isNone) = some f) :
    s.sendFirst =
      { s with
        transmitter :=
          { s.transmitter with
            queue := markFirstQueued s.transmitter.sendSeq s.transmitter.queue
            sendSeq := s.transmitter.sendSeq + 1, firstSends := s.transmitter.firstSends + 1 }
        pair := s.pair.begin (f.record.evtFrame s.transmitter.sendSeq) true } := by
  rw [State.sendFirst, if_pos (by simp [starts, noMark])]
  dsimp only
  rw [first]

theorem resend_eq {s : State} {f : Forwarded} {m : Byte} (starts : s.starts .evt = true)
    (mark : s.transmitter.mark = some m) (named : s.transmitter.queue.find? (fun f => f.linkSeq == some m) = some f) :
    s.resend =
      { s with
        transmitter :=
          { s.transmitter with mark := if m + 1 = s.transmitter.sendSeq then none else some (m + 1) }
        pair := s.pair.begin (f.record.evtFrame m) true } := by
  rw [State.resend, mark]
  dsimp only
  rw [if_pos starts, named]

theorem endHello_eq {s : State} {session grant : Byte} {live : Bool}
    (sending : s.pair.sending = some ⟨.hello session grant, live⟩) :
    s.endHello =
      if live then
        { s with
          pair := { s.pair with sending := none }
          link := { s.link with attempts := satFin s.link.attempts, timer := .running s.params.timeout } }
      else { s with pair := { s.pair with sending := none } } := by
  rw [State.endHello, sending]

theorem endEvt_eq {s : State} {seq : Byte} {channel : BitVec 4} {count : Byte} {payload : Payload} {live : Bool}
    (sending : s.pair.sending = some ⟨.evt seq channel count payload, live⟩) :
    s.endEvt =
      if live = true ∧ s.transmitter.timer = .stopped ∧ 0 < s.transmitter.sent then
        State.setTransmitter { s with pair := { s.pair with sending := none } }
          { s.transmitter with timer := .running s.params.timeout }
      else { s with pair := { s.pair with sending := none } } := by
  rw [State.endEvt, sending]

/-- Settles O45: a first send, a resend, and the end of a HELLO and of an EVT. -/
theorem eventFrameSends : Obligations.EventFrameSends := by
  unfold Obligations.EventFrameSends
  refine ⟨fun s front back r channel running free next noMark queue sent route => ?_,
    fun s m r channel running free next mark named route => ?_,
    fun s running => ⟨fun session grant sending => ?_, fun session grant sending => ?_,
      fun seq channel count payload live sending => ?_⟩⟩
  · intro t
    have first := find?_firstQueued sent r back
    rw [← queue] at first
    refine (whileRunning_running s State.sendFirst running).trans ?_
    rw [sendFirst_eq (starts_eq_true free next) noMark first, evtFrame_link route, queue, markFirstQueued_append sent]
    rfl
  · refine (whileRunning_running s State.resend running).trans ?_
    rw [resend_eq (starts_eq_true free next) mark named, evtFrame_link route]
    rfl
  · refine (whileRunning_running s State.endHello running).trans ?_
    rw [endHello_eq sending, if_pos rfl]
  · refine (whileRunning_running s State.endHello running).trans ?_
    rw [endHello_eq sending, if_neg Bool.false_ne_true]
  · intro s1
    have ended : exec .evtSendEnd s = .next s.endEvt := whileRunning_running s State.endEvt running
    refine ⟨fun isLive stopped sent => ?_, fun quiet => ?_⟩
    · rw [ended, endEvt_eq sending, if_pos ⟨isLive, stopped, sent⟩]
      rfl
    · have noLoad : ¬(live = true ∧ s.transmitter.timer = .stopped ∧ 0 < s.transmitter.sent) := by
        rintro ⟨isLive, stopped, sent⟩
        obtain notLive | running | none := quiet
        · simp [isLive] at notLive
        · exact running stopped
        · omega
      rw [ended, endEvt_eq sending, if_neg noLoad]

end Sys2Proof.Machine
end
